-- ==== Sys2Proof/Word.lean ====
section
/-! DEFINITION. The plainest types of the K460: bytes, 16-bit words, a link's direction and the two mover channels. -/

namespace Sys2Proof

/-- A byte of the window, of a ring or of a frame. -/
abbrev Byte := BitVec 8

/-- A 16-bit count or host address. -/
abbrev Word16 := BitVec 16

/-- A direction, always seen from the host (00_scope.md 1.5): `input` is IN, station to host. -/
inductive Dir where
  | input
  | output
deriving DecidableEq, Repr

/-- The two channels of the host memory mover (R155). -/
inductive Chan where
  | a
  | b
deriving DecidableEq, Repr

/-- The channel that is not `c`. -/
def Chan.other : Chan → Chan
  | .a => .b
  | .b => .a

end Sys2Proof
end

