-- ==== Sys2Proof/Syntax.lean ====
section
/-! DEFINITION. The commands of the K460: one constructor for each row of spec/opcode_table.json, in the table's order,
with the operands the row's rule needs. A DATA access carries no register: INDEX selects it (R171, log 2). -/

namespace Sys2Proof

inductive Instr where
  /-- INDEX_WRITE (R170): a write of window offset 0. -/
  | indexWrite (v : Byte)
  /-- STATUS_READ (R174): a read of window offset 0. -/
  | statusRead
  /-- CFG_WRITE (R119): a DATA write while INDEX selects CFG. -/
  | cfgWrite (v : Byte)
  /-- INT_EN_WRITE (R139): a DATA write while INDEX selects INT-EN. -/
  | intEnWrite (v : Byte)
  /-- S_SEL_WRITE (R56): a DATA write while INDEX selects S-SEL. -/
  | sSelWrite (v : Byte)
  /-- L_SEL_WRITE (R82): a DATA write while INDEX selects L-SEL. -/
  | lSelWrite (v : Byte)
  /-- P_LINK_WRITE (R144): a DATA write while INDEX selects P-LINK. -/
  | pLinkWrite (v : Byte)
  /-- MA_LINK_WRITE (R156): a DATA write while INDEX selects MA-LINK or MB-LINK. -/
  | maLinkWrite (v : Byte)
  /-- REGISTER_WRITE (R172): a DATA write while INDEX selects any other register. -/
  | registerWrite (v : Byte)
  /-- L_COUNT_L_READ (R83): a DATA read while INDEX selects L-COUNT-L. -/
  | lCountLRead
  /-- L_TOTAL_L_READ (R83): a DATA read while INDEX selects L-TOTAL-L. -/
  | lTotalLRead
  /-- MA_ADDR_L_READ (R156): a DATA read while INDEX selects MA-ADDR-L or MB-ADDR-L. -/
  | maAddrLRead
  /-- MA_COUNT_L_READ (R156): a DATA read while INDEX selects MA-COUNT-L or MB-COUNT-L. -/
  | maCountLRead
  /-- P_FLAGS_READ (R148): a DATA read while INDEX selects P-FLAGS. -/
  | pFlagsRead
  /-- PORT_READ (R145): a read of window offset 2. -/
  | portRead
  /-- PORT_WRITE (R147): a write of window offset 2. -/
  | portWrite (v : Byte)
  /-- POST (R85): command code 01 hex. -/
  | post
  /-- POP (R136): command code 02 hex. -/
  | pop
  /-- ABORT (R111): command code 03 hex. -/
  | abort
  /-- PURGE (R88): command code 04 hex. -/
  | purge
  /-- ASK_REARM (R122): command code 05 hex. -/
  | askRearm
  /-- PORT_MARK (R149): command code 06 hex. -/
  | portMark
  /-- PORT_SKIP (R150): command code 07 hex. -/
  | portSkip
  /-- MOVER_START (R157): command codes 08 and 09 hex, for channel A and B. -/
  | moverStart (c : Chan)
  /-- MOVER_STOP (R166): command codes 0A and 0B hex, for channel A and B. -/
  | moverStop (c : Chan)
  /-- SOFT_RESET (R175): command code 1F hex. -/
  | softReset
  /-- UNKNOWN_COMMAND (R175): a write of offset 3 with a byte that is no command code. -/
  | unknownCommand (v : Byte)
  /-- PIN_RESET (R19): the reset pin. -/
  | pinReset
  /-- ASK_LINE_ASSERTED (R119): ASK is seen changing to asserted. -/
  | askLineAsserted
  /-- ASK_LINE_RELEASED (R121): ASK is seen released. -/
  | askLineReleased
  /-- BGNT_GIVEN (R161): the host's arbiter gives the bus. -/
  | bgntGiven
  /-- BGNT_WITHDRAWN (R162): the host's arbiter takes the bus back. -/
  | bgntWithdrawn
  /-- BYTE_MOVE_COMPLETION (R160): the second step of a byte move ends; `hostByte` is what an OUT move's host read
  returned. -/
  | byteMoveCompletion (hostByte : Byte)
  /-- LINES_RELEASED (R15): CK and DT are seen released in Clearing. -/
  | linesReleased
  /-- ACK_READ (R9): an ACK is read for a frame the part sent. -/
  | ackRead
  /-- NAK_READ (R10): a NAK is read for a frame the part sent. -/
  | nakRead
  /-- ANSWER_RECEIVED (R25): the answer frame is taken with good parity and ACKed. -/
  | answerReceived (data : Byte) (mark : Bool)
  /-- FRAME_RECEIVED (R11): a status or data frame is taken with good parity and ACKed. -/
  | frameReceived (data : Byte) (mark : Bool)
  /-- NAK_GIVEN (R11): a station's frame has bad parity and is NAKed. -/
  | nakGiven
  /-- HANDBACK (R14): CK has stayed released for the settle time. -/
  | handback
  /-- STB_EDGE_IN_HANDBACK (R14): STB falls during a Handback. -/
  | stbEdgeInHandback
  /-- ANSWER_TIMEOUT (R13): the answer timer expires. -/
  | answerTimeout
  /-- FRAME_TIMEOUT (R18): the frame timer expires. -/
  | frameTimeout
  /-- TURN_ERROR (R14): the turn timer expires. -/
  | turnError
  /-- CUT_COMPLETION (R16): the CUT hold ends. -/
  | cutCompletion
  /-- PULSE_COMPLETION (R17): the bus reset pulse ends. -/
  | pulseCompletion
  /-- BUSY_DELAY_END (R96): the Holding period ends. -/
  | busyDelayEnd
  /-- NEXT_STEP (R98): the sequencer begins the next exchange. -/
  | nextStep
  /-- NO_PATTERN (R9): a slot of a frame the part sent shows no pattern. -/
  | noPattern
  /-- ANSWER_TENTH_BIT (R13): the tenth bit of the answer frame is taken. -/
  | answerTenthBit
  /-- DATA_READ (R171): a read of window offset 1. -/
  | dataRead
deriving DecidableEq, Repr

end Sys2Proof
end

