-- ==== Sys2Proof/Config.lean ====
section
/-! DEFINITION. Fixed numbers of the part, and its one free value. -/

namespace Sys2Proof.Config

/-- The stations of the bus (R44). -/
abbrev stationCount : Nat := 14

/-- The links of the link table (R62). -/
abbrev linkCount : Nat := 12

/-- The pages of buffer RAM (R59). -/
abbrev pageCount : Nat := 16

/-- The bytes of one page (R60). -/
abbrev pageBytes : Nat := 256

/-- The most marks a mark list holds (R70). -/
abbrev markLimit : Nat := 8

/-- The most jobs the queue holds (R86). -/
abbrev jobLimit : Nat := 8

/-- The slots of the event queue (R133). -/
abbrev eventSlots : Nat := 16

/-- The unit of the three wire timers, in microseconds (R18). -/
abbrev wireUnitMicros : Nat := 32

/-- The hold time of a CUT, in microseconds (R16). -/
abbrev cutMicros : Nat := 64

/-- The settle time of a handback, in microseconds (R14). -/
abbrev settleMicros : Nat := 8

/-- An unstretched handshake on CK, in microseconds (R4). -/
abbrev handshakeMicros : Nat := 4

/-- The wait between the assertion of SEL and a header's first bit, in microseconds (R13). -/
abbrev headerLeadMicros : Nat := 8

/-- FREE VALUE (log 8). Postings of the sequencer and of the mover at one event "join the tail in either order"
(R135, R142). Each time such an order is needed the model reads this constant at `State.freeTick`. It has no body, so
nothing can be proved of its value. -/
opaque postingOrder : Nat → Nat

end Sys2Proof.Config
end

