-- ==== Sys2Proof/Machine/State.lean ====
section
/-! DEFINITION. The state of the K460 as plain data, block by block, and its value at pin reset. -/

namespace Sys2Proof.Machine

/-! ### Bus unit (chapter 1) -/

/-- The activities of the bus unit (section 1.2). -/
inductive Activity where
  | free | clearing | header | turnaround | receiving | handback | sending | cutting | pulsing
deriving DecidableEq, Repr

/-- The data bits and the mark bit of a frame (R3). The parity bit follows from them. -/
structure Frame where
  data : Byte
  mark : Bool
deriving DecidableEq, Repr

/-- The three wire timers (R18). -/
inductive WireTimer where
  | answer | frame | turn
deriving DecidableEq, Repr

/-- A running wire timer (R18). `units` is the number of 32 microsecond units its register held when the row that armed it
was taken. The frame timer runs once for each bit and slot of a frame, and no row marks these: `later` holds the values
T-FRAME took since, which a run begun after the write reads, and `slot` says that a row has shown the sender's slot, one run
for all its repeats, to be the run in hand (R9, R18, log 6). -/
structure Wait where
  timer : WireTimer
  units : Byte
  later : List Byte := []
  slot : Bool := false
deriving DecidableEq, Repr

/-- A request that waits for Free (R2). -/
inductive BusRequest where
  | header | pulse
deriving DecidableEq, Repr

structure BusUnit where
  activity : Activity
  waiting : Option BusRequest
  headerIndex : Nat
  frame : Frame
  nakCount : Nat
  timer : Option Wait
  pulseMs : BitVec 4
deriving DecidableEq, Repr

/-! ### Exchange context (chapter 2) -/

inductive ExchangeKind where
  | openChannel | shut | put | take | status | probe
deriving DecidableEq, Repr

inductive Phase where
  | header | answer | inbound | handback | outbound | cut
deriving DecidableEq, Repr

/-- The examined fields of the answer frame (R178). -/
structure Answer where
  code : BitVec 3
  capability : Bool
  ask : Bool
deriving DecidableEq, Repr

/-- The pace fixed at the answer (R25). Clocked carries the CLK-RATE code read then (R6). -/
inductive Pace where
  | basic
  | clocked (rate : BitVec 2)
deriving DecidableEq, Repr

/-- The outcomes of section 2.6, and the cut by request of R40. -/
inductive ExchangeOutcome where
  | complete | emptyAnswer | busy | noChannel | wrongState | noStation
  | frameError | frameTimeout | turnError | protocolError | cutByRequest
deriving DecidableEq, Repr

/-- The result of a PROBE test run (R37). -/
structure TestResult where
  clocked : Bool
  passed : Bool
deriving DecidableEq, Repr

structure Exchange where
  kind : ExchangeKind
  station : Fin Config.stationCount
  channel : BitVec 3
  dir : Dir
  paceRequest : Bool
  length : Byte
  phase : Phase
  answer : Option Answer
  pace : Option Pace
  framesDone : Nat
  markReceived : Bool
  statusByte : Option Byte
  testPassed : Nat
  testResult : Option TestResult
  outcome : Option ExchangeOutcome
deriving DecidableEq, Repr

/-! ### Station table (chapter 3) -/

inductive Presence where
  | unknown | present | absent
deriving DecidableEq, Repr

inductive Capability where
  | unknown | basicOnly | clockedCapable
deriving DecidableEq, Repr

/-- A station entry (R44). `streak` is the number 0 or 1. -/
structure Station where
  presence : Presence
  capability : Capability
  demoted : Bool
  streak : Bool
  askPending : Bool
  lastStatus : Option Byte
deriving DecidableEq, Repr

/-! ### Links and the page pool (chapter 4) -/

inductive LinkState where
  | closed | opening | opened | shutting | lost
deriving DecidableEq, Repr

/-- One held byte of a ring and whether a mark names it (R70). -/
structure Cell where
  byte : Byte
  marked : Bool
deriving DecidableEq, Repr

abbrev Page := Fin Config.pageCount

/-- A link record (R62). The mark list is the marked cells of the ring in ring order (R70). `start` is the storage
position of the oldest byte (section 4.4); `inFlight` says that the oldest byte is in flight (R75). -/
structure Link where
  state : LinkState
  station : Fin Config.stationCount
  channel : BitVec 3
  dir : Dir
  pages : List Page
  start : Nat
  ring : List Cell
  inFlight : Bool
  messageOpen : Bool
  holder : Option Chan
  total : Word16
deriving DecidableEq, Repr

abbrev LinkIndex := Fin Config.linkCount
abbrev StationIndex := Fin Config.stationCount

/-! ### Job queue and sequencer (chapter 5) -/

inductive JobKind where
  | openLink | shut | put | take | status | probe | census | busReset
deriving DecidableEq, Repr

/-- A job record (R84). Fields the kind does not use are copied unchecked, so `link`, `station` and `pages` are the bytes
staged. -/
structure Job where
  kind : JobKind
  tag : Byte
  link : Byte
  station : Byte
  channel : BitVec 3
  dir : Dir
  pages : Byte
  limit : BitVec 12
deriving DecidableEq, Repr

/-- The pace a PROBE's detail reports (R107). -/
inductive ProbeDetail where
  | none | basic | clocked
deriving DecidableEq, Repr

/-- The job context of the Active job (R93). `census` bit n is the record of station n; `visit` is the census visit in
progress, or the next one (R108). -/
structure JobContext where
  bytesMoved : Nat
  busyCount : Nat
  msgEnd : Bool
  emptyAnswer : Bool
  demoted : Bool
  localClose : Bool
  testClk : Bool
  census : BitVec 14
  visit : StationIndex
  statusByte : Option Byte
  probe : ProbeDetail
deriving DecidableEq, Repr

/-- The result codes of a job (R114), in the order of their codes (R179). -/
inductive JobResult where
  | done | aborted | noStation | busyLimit | noChannel | wrongState | frameError | frameTimeout | turnError
  | protocolError | linkState | wrongWay | linkLost | linkConflict | noPages | ringFull | marksFull
deriving DecidableEq, Repr

inductive SeqState where
  | idle | running | holding | cutting | scanning | resetting
deriving DecidableEq, Repr

/-- The sequencer (R89), with STALL (R92), the job-turn flag (R91) and the delay read when Holding began (R96). -/
structure Sequencer where
  state : SeqState
  stall : Bool
  jobTurn : Bool
  holdMs : Byte
deriving DecidableEq, Repr

/-! ### Attention unit (chapter 6) -/

/-- The scan context (R118). -/
structure Scan where
  visited : List StationIndex
  visits : Nat
  current : Option StationIndex
  claim : Option (StationIndex × Byte)
deriving DecidableEq, Repr

structure Attention where
  latch : Bool
  mask : Bool
  rotation : StationIndex
  scan : Option Scan
deriving DecidableEq, Repr

/-! ### Event queue (chapter 7) -/

inductive StopReason where
  | count | mark | command | shut | lost | link
deriving DecidableEq, Repr

/-- Class and code of an event (R131). -/
inductive EventKind where
  | job (k : JobKind)
  | claimed
  | unclaimed
  | moverDone
  | moverStopped
deriving DecidableEq, Repr

/-- The result field of an event: a result code, or a stop reason (R131). -/
inductive EventResult where
  | code (r : JobResult)
  | stop (r : StopReason)
deriving DecidableEq, Repr

structure Event where
  kind : EventKind
  source : Byte
  result : EventResult
  count : Word16
  detail : Byte
  flags : Byte
deriving DecidableEq, Repr

/-- The holder of a reservation (R133). -/
inductive Holder where
  | job
  | scan
  | channel (c : Chan)
deriving DecidableEq, Repr

structure EventQueue where
  held : List Event
  reserved : List Holder
  qroom : Bool
deriving DecidableEq, Repr

/-! ### Buffer port (chapter 8) -/

structure Port where
  link : LinkIndex
  last : Bool
  underrun : Bool
  overrun : Bool
  denied : Bool
deriving DecidableEq, Repr

/-! ### Host memory mover (chapter 9) -/

/-- A mover channel (R155) with its holding copies (R156). -/
structure Channel where
  link : LinkIndex
  addr : Word16
  count : Word16
  mode : Bool
  running : Bool
  dir : Dir
  moved : Word16
  stopPending : Option StopReason
  addrHold : Byte
  countHold : Byte
deriving DecidableEq, Repr

/-- The byte move in progress (R160): its channel, and for an IN channel the byte its pop claim was handed. -/
structure Move where
  chan : Chan
  popped : Option Cell
deriving DecidableEq, Repr

structure Mover where
  a : Channel
  b : Channel
  lastServed : Chan
  move : Option Move
deriving DecidableEq, Repr

/-! ### Register window (chapter 10) -/

/-- The refusal reasons (R176), in the order of their codes. -/
inductive Reason where
  | badJob | queueFull | eventsEmpty | nothingToAbort | alreadyEnding | notAbortable | portDenied | nothingToMark
  | marksFull | channelRunning | zeroCount | linkStateBad | linkBusy | noEventSlot | channelIdle | badValue
  | unknownCommand
deriving DecidableEq, Repr

structure Window where
  index : BitVec 6
  cmdErr : Bool
  refuse : Option Reason
  purged : Nat
  sSel : StationIndex
  lSel : LinkIndex
  countHold : Byte
  totalHold : Byte
deriving DecidableEq, Repr

/-- The configuration and staging registers (section 10.3). -/
structure Settings where
  clocked : Bool
  scan : Bool
  step : Bool
  intJob : Bool
  intAsk : Bool
  intMover : Bool
  intQroom : Bool
  tAnswer : Byte
  tFrame : Byte
  tTurn : Byte
  busyLimit : BitVec 4
  frameLimit : BitVec 4
  busyDelay : Byte
  rstPulse : BitVec 4
  clkRate : BitVec 2
  jKind : Byte
  jTag : Byte
  jLink : Byte
  jStation : Byte
  jChan : BitVec 4
  jPages : Byte
  jLimitL : Byte
  jLimitH : BitVec 4
deriving DecidableEq, Repr

/-! ### Lines and the host side -/

/-- A host write the mover finished: address and byte (R160). -/
structure HostWrite where
  addr : Word16
  data : Byte
deriving DecidableEq, Repr

/-- Input levels the part holds or follows (`askLine`, `bgnt`), and what it last drove on the host data bus: the byte of the
last window read, and the last finished mover write (logs 1, 3, 14). -/
structure Pins where
  askLine : Bool
  bgnt : Bool
  readData : Byte
  hostWrite : Option HostWrite
deriving DecidableEq, Repr

/-! ### The whole machine -/

structure State where
  bus : BusUnit
  exchange : Option Exchange
  stations : Vector Station Config.stationCount
  links : Vector Link Config.linkCount
  freePages : List Page
  jobs : List Job
  active : Option JobContext
  seq : Sequencer
  attention : Attention
  events : EventQueue
  port : Port
  mover : Mover
  window : Window
  settings : Settings
  pins : Pins
  freeTick : Nat
  pending : List Instr
deriving DecidableEq, Repr

/-- Reasons the machine stops. The spec names none: every command and event has an effect or none, so this type has no
constructor, and no meaning can answer a fault (INVENTORY.md, Faults). -/
inductive Fault where
deriving DecidableEq, Repr

/-- Reasons a command has no meaning. -/
inductive Refusal where
  /-- Raised by `exec` for a row that has no meaning yet: none is left. Safe: the machine stops where the part goes on. -/
  | notModelled (mnemonic : String)
deriving DecidableEq, Repr

/-! ### Named updates: one for each block -/

def State.setBus (s : State) (x : BusUnit) : State := { s with bus := x }
def State.setExchange (s : State) (x : Option Exchange) : State := { s with exchange := x }
def State.setStations (s : State) (x : Vector Station Config.stationCount) : State := { s with stations := x }
def State.setLinks (s : State) (x : Vector Link Config.linkCount) : State := { s with links := x }
def State.setFreePages (s : State) (x : List Page) : State := { s with freePages := x }
def State.setJobs (s : State) (x : List Job) : State := { s with jobs := x }
def State.setActive (s : State) (x : Option JobContext) : State := { s with active := x }
def State.setSeq (s : State) (x : Sequencer) : State := { s with seq := x }
def State.setAttention (s : State) (x : Attention) : State := { s with attention := x }
def State.setEvents (s : State) (x : EventQueue) : State := { s with events := x }
def State.setPort (s : State) (x : Port) : State := { s with port := x }
def State.setMover (s : State) (x : Mover) : State := { s with mover := x }
def State.setWindow (s : State) (x : Window) : State := { s with window := x }
def State.setSettings (s : State) (x : Settings) : State := { s with settings := x }
def State.setPins (s : State) (x : Pins) : State := { s with pins := x }
def State.setFreeTick (s : State) (x : Nat) : State := { s with freeTick := x }
def State.setPending (s : State) (x : List Instr) : State := { s with pending := x }

/-! ### Pin reset values -/

/-- The bus unit at pin reset (R19). -/
def BusUnit.reset : BusUnit :=
  { activity := .free, waiting := none, headerIndex := 0, frame := { data := 0, mark := false }, nakCount := 0,
    timer := none, pulseMs := 0 }

/-- A station entry at pin reset (R44). -/
def Station.reset : Station :=
  { presence := .unknown, capability := .unknown, demoted := false, streak := false, askPending := false,
    lastStatus := none }

/-- A link record at pin reset (R62). The spec gives the ring's storage start at the open claim only: the 0 of a Closed link
is a DESIGN CHOICE (log 30). -/
def Link.reset : Link :=
  { state := .closed, station := 0, channel := 0, dir := .output, pages := [], start := 0, ring := [], inFlight := false,
    messageOpen := false, holder := none, total := 0 }

/-- The sixteen pages, lowest first (R59). -/
def allPages : List Page :=
  [0, 1, 2, 3, 4, 5, 6, 7, 8, 9, 10, 11, 12, 13, 14, 15]

/-- The sequencer at pin reset (R117). -/
def Sequencer.reset : Sequencer :=
  { state := .idle, stall := false, jobTurn := false, holdMs := 0 }

/-- The attention unit at pin reset (R118). -/
def Attention.reset : Attention :=
  { latch := false, mask := false, rotation := 0, scan := none }

/-- The event queue at pin reset (R142). -/
def EventQueue.reset : EventQueue :=
  { held := [], reserved := [], qroom := false }

/-- The buffer port at pin reset (R143). -/
def Port.reset : Port :=
  { link := 0, last := false, underrun := false, overrun := false, denied := false }

/-- A mover channel at pin reset (R155, R168). -/
def Channel.reset : Channel :=
  { link := 0, addr := 0, count := 0, mode := false, running := false, dir := .output, moved := 0, stopPending := none,
    addrHold := 0, countHold := 0 }

/-- The mover at pin reset: channel B was served last, so A is served first (R155). -/
def Mover.reset : Mover :=
  { a := Channel.reset, b := Channel.reset, lastServed := .b, move := none }

/-- The register window at pin reset (R170, R176, R56, R82, R83, R117). -/
def Window.reset : Window :=
  { index := 0, cmdErr := false, refuse := none, purged := 0, sSel := 0, lSel := 0, countHold := 0, totalHold := 0 }

/-- The configuration and staging registers at pin reset (section 10.3). -/
def Settings.reset : Settings :=
  { clocked := true, scan := true, step := false, intJob := false, intAsk := false, intMover := false, intQroom := false,
    tAnswer := 32, tFrame := 8, tTurn := 16, busyLimit := 3, frameLimit := 2, busyDelay := 10, rstPulse := 4,
    clkRate := 1, jKind := 0, jTag := 0, jLink := 0, jStation := 0, jChan := 0, jPages := 0, jLimitL := 0, jLimitH := 0 }

/-- The lines after power-up: DESIGN CHOICE for the inputs and for the data byte (logs 1, 3, 14). -/
def Pins.reset : Pins :=
  { askLine := false, bgnt := false, readData := 0, hostWrite := none }

/-- The machine right after pin reset, with an empty queue of commands. -/
def State.reset : State :=
  { bus := BusUnit.reset
    exchange := none
    stations := Vector.replicate Config.stationCount Station.reset
    links := Vector.replicate Config.linkCount Link.reset
    freePages := allPages
    jobs := []
    active := none
    seq := Sequencer.reset
    attention := Attention.reset
    events := EventQueue.reset
    port := Port.reset
    mover := Mover.reset
    window := Window.reset
    settings := Settings.reset
    pins := Pins.reset
    freeTick := 0
    pending := [] }

end Sys2Proof.Machine
end

