-- ==== Sys2Proof/Machine/Formats.lean ====
section
/-! DEFINITION. Every layout and code of section 10.6: frames, the register map, refusal reasons, event fields. -/

namespace Sys2Proof.Machine

/-! ### Bytes from bits -/

/-- A bit as the number 0 or 1. -/
def bitVal (b : Bool) : Nat := if b then 1 else 0

/-- The byte with the given bits, bit 7 first. -/
def byteOfBits (b7 b6 b5 b4 b3 b2 b1 b0 : Bool) : Byte :=
  BitVec.ofNat 8 (128 * bitVal b7 + 64 * bitVal b6 + 32 * bitVal b5 + 16 * bitVal b4 + 8 * bitVal b3 + 4 * bitVal b2
    + 2 * bitVal b1 + bitVal b0)

/-- The low byte of a 16-bit word. -/
def lowByte (w : Word16) : Byte := w.setWidth 8

/-- The high byte of a 16-bit word. -/
def highByte (w : Word16) : Byte := (w >>> 8).setWidth 8

/-- The 16-bit word with its low byte replaced (R156). -/
def withLowByte (w : Word16) (v : Byte) : Word16 := BitVec.ofNat 16 (256 * (highByte w).toNat + v.toNat)

/-- The 16-bit word with its high byte replaced (R156). -/
def withHighByte (w : Word16) (v : Byte) : Word16 := BitVec.ofNat 16 (256 * v.toNat + (lowByte w).toNat)

/-- 1 is IN, 0 is OUT, in every layout (section 10.6). -/
def dirBit : Dir → Bool
  | .input => true
  | .output => false

/-- The direction a layout bit names. -/
def dirOfBit (b : Bool) : Dir := if b then .input else .output

/-! ### Station-bus frames (R3, R177, R178) -/

/-- The kind codes of header frame 1 (R177). -/
def ExchangeKind.code : ExchangeKind → Nat
  | .openChannel => 1
  | .shut => 2
  | .put => 3
  | .take => 4
  | .status => 5
  | .probe => 6

/-- The three header frames of an exchange (R177): frame 1 for index 0, frame 2 for index 1, frame 3 after that. The mark
bit is set on the third (R13). -/
def Exchange.headerFrame (e : Exchange) : Nat → Frame
  | 0 => { data := BitVec.ofNat 8 (128 * bitVal e.paceRequest + 16 * e.kind.code + e.station.val), mark := false }
  | 1 => { data := BitVec.ofNat 8 (8 * bitVal (dirBit e.dir) + e.channel.toNat), mark := false }
  | _ => { data := e.length, mark := true }

/-- The examined fields of the answer frame (R178). -/
def answerOfByte (d : Byte) : Answer :=
  { code := d.setWidth 3, capability := d.getLsbD 3, ask := d.getLsbD 4 }

/-- The test frames of a PROBE (R36): 5A hex, then A5 hex, mark clear. -/
def testFrame (passed : Nat) : Frame :=
  { data := if passed = 0 then 0x5A else 0xA5, mark := false }

/-- The number of 1 bits among the low `n` bits of a number. -/
def onesBelow (x : Nat) : Nat → Nat
  | 0 => 0
  | n + 1 => onesBelow x n + bitVal (x.testBit n)

/-- The parity bit that makes the number of 1 bits among all ten odd (R3). -/
def Frame.parity (f : Frame) : Bool :=
  (onesBelow f.data.toNat 8 + bitVal f.mark) % 2 == 0

/-- The ten bits of a frame, bit 0 sent first: data, mark, parity (R3). -/
def Frame.bits (f : Frame) : BitVec 10 :=
  BitVec.ofNat 10 (512 * bitVal f.parity + 256 * bitVal f.mark + f.data.toNat)

/-- Ten received bits have good parity when they hold an odd number of 1 bits (R3). -/
def goodParity (b : BitVec 10) : Bool :=
  onesBelow b.toNat 10 % 2 == 1

/-- The frame that ten received bits carry (R3). -/
def frameOfBits (b : BitVec 10) : Frame :=
  { data := b.setWidth 8, mark := b.getLsbD 8 }

/-! ### Answer codes (R26) -/

/-- The answer code is ACCEPT. -/
def Answer.accepts (a : Answer) : Bool := a.code.toNat == 0

/-- The table of R26: which answer codes are valid for the header's kind. -/
def Answer.validFor (a : Answer) (k : ExchangeKind) : Bool :=
  match a.code.toNat with
  | 0 => true
  | 1 => true
  | 2 => k == .take
  | 3 => k == .openChannel || k == .shut || k == .put || k == .take
  | 4 => k == .openChannel || k == .shut || k == .put || k == .take
  | _ => false

/-- The outcome a valid code other than ACCEPT gives (R28). -/
def Answer.outcome (a : Answer) : ExchangeOutcome :=
  match a.code.toNat with
  | 0 => .complete
  | 1 => .busy
  | 2 => .emptyAnswer
  | 3 => .noChannel
  | 4 => .wrongState
  | _ => .protocolError

/-! ### Job kinds and staging (R84, R179) -/

/-- The job kind codes (R179). -/
def JobKind.code : JobKind → Nat
  | .openLink => 1
  | .shut => 2
  | .put => 3
  | .take => 4
  | .status => 5
  | .probe => 6
  | .census => 7
  | .busReset => 8

/-- The job kind of a J-KIND value, if it is a code (R179). -/
def jobKindOfCode (v : Byte) : Option JobKind :=
  match v.toNat with
  | 1 => some .openLink
  | 2 => some .shut
  | 3 => some .put
  | 4 => some .take
  | 5 => some .status
  | 6 => some .probe
  | 7 => some .census
  | 8 => some .busReset
  | _ => none

/-! ### Results, stop reasons, refusal reasons -/

/-- The result codes (R179). -/
def JobResult.code : JobResult → Nat
  | .done => 0
  | .aborted => 1
  | .noStation => 2
  | .busyLimit => 3
  | .noChannel => 4
  | .wrongState => 5
  | .frameError => 6
  | .frameTimeout => 7
  | .turnError => 8
  | .protocolError => 9
  | .linkState => 10
  | .wrongWay => 11
  | .linkLost => 12
  | .linkConflict => 13
  | .noPages => 14
  | .ringFull => 15
  | .marksFull => 16

/-- The stop reasons (R179). -/
def StopReason.code : StopReason → Nat
  | .count => 1
  | .mark => 2
  | .command => 3
  | .shut => 4
  | .lost => 5
  | .link => 6

/-- A mover run is DONE when it stopped for COUNT or MARK (R132). -/
def StopReason.eventKind : StopReason → EventKind
  | .count => .moverDone
  | .mark => .moverDone
  | _ => .moverStopped

/-- The REFUSE codes (R176). -/
def Reason.code : Reason → Nat
  | .badJob => 1
  | .queueFull => 2
  | .eventsEmpty => 3
  | .nothingToAbort => 4
  | .alreadyEnding => 5
  | .notAbortable => 6
  | .portDenied => 7
  | .nothingToMark => 8
  | .marksFull => 9
  | .channelRunning => 10
  | .zeroCount => 11
  | .linkStateBad => 12
  | .linkBusy => 13
  | .noEventSlot => 14
  | .channelIdle => 15
  | .badValue => 16
  | .unknownCommand => 17

/-- The number of a channel in an event's source (R179). -/
def chanCode : Chan → Nat
  | .a => 0
  | .b => 1

/-- The detail of a PROBE (R179). -/
def ProbeDetail.code : ProbeDetail → Nat
  | .none => 0
  | .basic => 1
  | .clocked => 2

/-! ### The event record as read (R179) -/

/-- The class in bits 7 and 6, the code in bits 5 to 0. -/
def EventKind.byte : EventKind → Byte
  | .job k => BitVec.ofNat 8 (64 + k.code)
  | .claimed => 0x81
  | .unclaimed => 0x82
  | .moverDone => 0xC1
  | .moverStopped => 0xC2

/-- The result field as read. -/
def EventResult.byte : EventResult → Byte
  | .code r => BitVec.ofNat 8 r.code
  | .stop r => BitVec.ofNat 8 r.code

/-! ### State codes of the view registers (section 10.6.4) -/

def SeqState.code : SeqState → Nat
  | .idle => 0
  | .running => 1
  | .holding => 2
  | .cutting => 3
  | .scanning => 4
  | .resetting => 5

def Presence.code : Presence → Nat
  | .unknown => 0
  | .present => 1
  | .absent => 2

def Capability.code : Capability → Nat
  | .unknown => 0
  | .basicOnly => 1
  | .clockedCapable => 2

def LinkState.code : LinkState → Nat
  | .closed => 0
  | .opening => 1
  | .opened => 2
  | .shutting => 3
  | .lost => 4

def holderCode : Option Chan → Nat
  | none => 0
  | some .a => 1
  | some .b => 2

/-! ### The register map (section 10.3) -/

/-- The registers of one mover channel, in the order of their indices. -/
inductive MoverReg where
  | link | addrL | addrH | countL | countH | mode | state
deriving DecidableEq, Repr

/-- The internal registers of the window, in the order of their indices. -/
inductive Reg where
  | cfg | intEn | tAnswer | tFrame | tTurn | retry | busyDelay | rstPulse | clkRate
  | jKind | jTag | jLink | jStation | jChan | jPages | jLimitL | jLimitH
  | eClassCode | eSource | eResult | eCountL | eCountH | eDetail | eFlags | eLevel
  | seq | qLevel | qHeadTag | purged | refuse
  | sSel | sEntry | sStatusFlag | sStatusByte
  | lSel | lState | lEnd | lPages | lCountL | lCountH | lMarks | lTotalL | lTotalH | pool
  | pLink | pFlags
  | mover (c : Chan) (r : MoverReg)
deriving DecidableEq, Repr

/-- The register at an index; 9, 31, 55 and 63 are unassigned (section 10.3). -/
def regOfIndex (i : BitVec 6) : Option Reg :=
  match i.toNat with
  | 0 => some .cfg
  | 1 => some .intEn
  | 2 => some .tAnswer
  | 3 => some .tFrame
  | 4 => some .tTurn
  | 5 => some .retry
  | 6 => some .busyDelay
  | 7 => some .rstPulse
  | 8 => some .clkRate
  | 10 => some .jKind
  | 11 => some .jTag
  | 12 => some .jLink
  | 13 => some .jStation
  | 14 => some .jChan
  | 15 => some .jPages
  | 16 => some .jLimitL
  | 17 => some .jLimitH
  | 18 => some .eClassCode
  | 19 => some .eSource
  | 20 => some .eResult
  | 21 => some .eCountL
  | 22 => some .eCountH
  | 23 => some .eDetail
  | 24 => some .eFlags
  | 25 => some .eLevel
  | 26 => some .seq
  | 27 => some .qLevel
  | 28 => some .qHeadTag
  | 29 => some .purged
  | 30 => some .refuse
  | 32 => some .sSel
  | 33 => some .sEntry
  | 34 => some .sStatusFlag
  | 35 => some .sStatusByte
  | 36 => some .lSel
  | 37 => some .lState
  | 38 => some .lEnd
  | 39 => some .lPages
  | 40 => some .lCountL
  | 41 => some .lCountH
  | 42 => some .lMarks
  | 43 => some .lTotalL
  | 44 => some .lTotalH
  | 45 => some .pool
  | 46 => some .pLink
  | 47 => some .pFlags
  | 48 => some (.mover .a .link)
  | 49 => some (.mover .a .addrL)
  | 50 => some (.mover .a .addrH)
  | 51 => some (.mover .a .countL)
  | 52 => some (.mover .a .countH)
  | 53 => some (.mover .a .mode)
  | 54 => some (.mover .a .state)
  | 56 => some (.mover .b .link)
  | 57 => some (.mover .b .addrL)
  | 58 => some (.mover .b .addrH)
  | 59 => some (.mover .b .countL)
  | 60 => some (.mover .b .countH)
  | 61 => some (.mover .b .mode)
  | 62 => some (.mover .b .state)
  | _ => none

end Sys2Proof.Machine
end

