-- ==== Sys2Proof/Machine/Ops.lean ====
section
/-! DEFINITION. The named operations over the tables, the event queue and the refusal record that every block uses. -/

namespace Sys2Proof.Machine

/-! ### Tables -/

/-- Applies `f` to every entry of a table. -/
def mapTable {α : Type} {n : Nat} (f : α → α) (v : Vector α n) : Vector α n :=
  ⟨⟨v.toArray.toList.map f⟩, by simp⟩

/-- The station entry of an address (R44). -/
def State.station (s : State) (i : StationIndex) : Station := s.stations[i]

/-- Replaces the station entry of an address. -/
def State.setStation (s : State) (i : StationIndex) (x : Station) : State := s.setStations (s.stations.set i x)

/-- The link record of an index (R62). -/
def State.link (s : State) (i : LinkIndex) : Link := s.links[i]

/-- Replaces the link record of an index. -/
def State.setLink (s : State) (i : LinkIndex) (x : Link) : State := s.setLinks (s.links.set i x)

/-- The mover channel of a name (R155). -/
def Mover.chan (m : Mover) : Chan → Channel
  | .a => m.a
  | .b => m.b

/-- Replaces a mover channel. -/
def Mover.setChan (m : Mover) (c : Chan) (x : Channel) : Mover :=
  match c with
  | .a => { m with a := x }
  | .b => { m with b := x }

/-- The mover channel of a name. -/
def State.chan (s : State) (c : Chan) : Channel := s.mover.chan c

/-- Replaces a mover channel. -/
def State.setChan (s : State) (c : Chan) (x : Channel) : State := s.setMover (s.mover.setChan c x)

/-- The link a job names. POST checked that the byte is 0 to 11 for the kinds that use it (R84, R85). -/
def Job.linkIndex (j : Job) : LinkIndex := Fin.ofNat Config.linkCount j.link.toNat

/-- The station a job names. POST checked that the byte is 0 to 13 for the kinds that use it (R84, R85). -/
def Job.stationIndex (j : Job) : StationIndex := Fin.ofNat Config.stationCount j.station.toNat

/-! ### Outcomes of commands and register writes (R176) -/

/-- A command taken, or a DATA write stored: CMDERR is cleared and REFUSE kept. -/
def State.taken (s : State) : State := s.setWindow { s.window with cmdErr := false }

/-- A refusal: CMDERR is set and REFUSE stores the reason. -/
def State.refuse (s : State) (r : Reason) : State := s.setWindow { s.window with cmdErr := true, refuse := some r }

/-- The byte a window read drives on the host data bus (log 1). -/
def State.readBack (s : State) (v : Byte) : State := s.setPins { s.pins with readData := v }

/-! ### Event slots (R133, R134, R135) -/

/-- The free slots: 16 less the events held less the reservations (R133). -/
def State.freeSlots (s : State) : Nat := Config.eventSlots - s.events.held.length - s.events.reserved.length

/-- A reservation joins the set under its holder (R134). -/
def State.reserve (s : State) (h : Holder) : State :=
  s.setEvents { s.events with reserved := s.events.reserved ++ [h] }

/-- A posting: the record joins the tail and the holder's reservation leaves the set (R135). -/
def State.post (s : State) (h : Holder) (e : Event) : State :=
  s.setEvents { s.events with held := s.events.held ++ [e], reserved := s.events.reserved.erase h }

/-- A posting by the sequencer at an event at which the mover has just posted its own last `k` records: these postings
join the tail in either order (R135, R142), so the record is placed before as many of those `k` as a free value says
(log 8). With `k` 0 it joins the tail. -/
def State.postAmong (s : State) (k : Nat) (h : Holder) (e : Event) : State :=
  if k = 0 then s.post h e
  else
    let place := s.events.held.length - Config.postingOrder s.freeTick % (k + 1)
    (s.setEvents { s.events with held := s.events.held.insertIdx place e, reserved := s.events.reserved.erase h }).setFreeTick
      (s.freeTick + 1)

/-- The QROOM latch is set when the job queue's level falls from 8 (R87, R138). -/
def State.setQroomOnFall (s : State) (before after : Nat) : State :=
  if before = Config.jobLimit ∧ after < Config.jobLimit then s.setEvents { s.events with qroom := true } else s

/-! ### Station table reports (chapter 3) -/

/-- An answer report (R45). -/
def Station.answerReport (e : Station) (a : Answer) : Station :=
  { e with presence := .present, capability := if a.capability then .clockedCapable else .basicOnly, askPending := a.ask }

/-- An answer timeout report (R46). -/
def Station.answerTimeout (e : Station) : Station := { e with presence := .absent }

/-- A status byte report (R47). -/
def Station.statusReport (e : Station) (v : Byte) : Station := { e with lastStatus := some v }

/-- A "Clocked phase good" report (R48). -/
def Station.phaseGood (e : Station) : Station := { e with streak := false }

/-- A "Clocked phase failed" report (R49): two in a row demote. -/
def Station.phaseFailed (e : Station) : Station :=
  if e.demoted then { e with streak := true }
  else if e.streak then { e with streak := false, demoted := true }
  else { e with streak := true }

/-- A "Clocked passed" or "Clocked failed" test report (R50). -/
def Station.testReport (e : Station) (passed : Bool) : Station := { e with demoted := !passed, streak := false }

/-- A census error report (R52). -/
def Station.censusError (e : Station) : Station := { e with presence := .present }

/-- The effect of SOFT-RESET on an entry (R53). -/
def Station.softReset (e : Station) : Station := { e with askPending := false, streak := false }

/-- The effective pace is Clocked (R51). -/
def Station.clockedPace (e : Station) (cfgClocked : Bool) : Bool :=
  e.capability == .clockedCapable && !e.demoted && cfgClocked

/-- Applies a report to the entry of a station. -/
def State.reportStation (s : State) (i : StationIndex) (f : Station → Station) : State := s.setStation i (f (s.station i))

/-! ### The window as a whole (R169) -/

/-- While BGNT is given and a byte move is in progress, the part takes no window access (R169). -/
def State.windowShut (s : State) : Bool := s.pins.bgnt && s.mover.move.isSome

/-- A window access: acted on whole, or not taken while the window is shut (R169, log 12). -/
def onWindow (f : State → State) (s : State) : Host.Outcome State Fault Refusal :=
  .next (if s.windowShut then s else f s)

end Sys2Proof.Machine
end

