-- ==== Sys2Proof/Machine/Bus.lean ====
section
/-! DEFINITION. The bus unit (chapter 1): requests, the steps of an exchange, the CUT and the pulse. Each operation is the
bus unit's side of one step; Machine/Sequencer.lean gives what a report means for the exchange and the job. -/

namespace Sys2Proof.Machine

/-- Arms a wire timer: the register is read when the wait begins (R18). -/
def Settings.wait (g : Settings) : WireTimer → Wait
  | .answer => { timer := .answer, units := g.tAnswer }
  | .frame => { timer := .frame, units := g.tFrame }
  | .turn => { timer := .turn, units := g.tTurn }

/-- The timer `t` is the one running. -/
def BusUnit.timing (b : BusUnit) (t : WireTimer) : Bool :=
  match b.timer with
  | some w => w.timer == t
  | none => false

/-- The lengths the run in hand can have read: one value, or for the frame timer one of several (R18, log 6). -/
def Wait.unitsRead (w : Wait) : List Byte := w.units :: w.later

/-- T-FRAME is written while the frame timer is armed: runs of this frame that begin after the write read the new value. The
slot the part clocks is one run through all its repeats, so it keeps its length (R9, R18). -/
def Wait.frameUnitsWritten (w : Wait) (v : Byte) : Wait :=
  if w.timer = .frame ∧ w.slot = false ∧ v ∉ w.unitsRead then { w with later := w.later ++ [v] } else w

/-- A slot of a frame the part sent has shown no pattern: the run in hand is that slot's (R9). -/
def Wait.inSlot (w : Wait) : Wait := if w.timer = .frame then { w with slot := true } else w

/-- Clearing begins, with the turn timer that bounds it (R15, log 7). -/
def BusUnit.startClearing (b : BusUnit) (g : Settings) : BusUnit :=
  { b with activity := .clearing, nakCount := 0, timer := some (g.wait .turn) }

/-- A bus reset pulse begins: its length is read at the start (R17). -/
def BusUnit.startPulse (b : BusUnit) (g : Settings) : BusUnit :=
  { b with activity := .pulsing, timer := none, pulseMs := g.rstPulse }

/-- A request from the sequencer: begun from Free, and otherwise waiting for it (R2). -/
def BusUnit.request (b : BusUnit) (g : Settings) (r : BusRequest) : BusUnit :=
  if b.activity = .free then
    match r with
    | .header => b.startClearing g
    | .pulse => b.startPulse g
  else { b with waiting := some r }

/-- The bus unit reaches Free with every timer stopped; a waiting request begins (R2). -/
def BusUnit.toFree (b : BusUnit) (g : Settings) : BusUnit :=
  let f := { b with activity := .free, waiting := none, nakCount := 0, timer := none }
  match b.waiting with
  | none => f
  | some r => f.request g r

/-- A CUT starts: the running timer stops and the activity in progress is abandoned. A CUT joins one already running and is
not taken in Pulsing (R16). -/
def BusUnit.startCut (b : BusUnit) : BusUnit :=
  if b.activity = .pulsing then b
  else { b with activity := .cutting, waiting := none, nakCount := 0, timer := none }

/-- The bus unit begins to send a frame in the given activity, with a NAK count of 0 (R10). The frame timer bounds its
stretches and its slot (R18, log 6). -/
def BusUnit.send (b : BusUnit) (g : Settings) (act : Activity) (f : Frame) : BusUnit :=
  { b with activity := act, frame := f, nakCount := 0, timer := some (g.wait .frame) }

/-- Turnaround begins at the end of the header, with the answer timer (R13). -/
def BusUnit.startTurnaround (b : BusUnit) (g : Settings) : BusUnit :=
  { b with activity := .turnaround, nakCount := 0, timer := some (g.wait .answer) }

/-- The bus unit waits, under the frame timer, for a frame the exchange expects (R5, R7). -/
def BusUnit.receive (b : BusUnit) (g : Settings) : BusUnit :=
  { b with activity := .receiving, nakCount := 0, timer := some (g.wait .frame) }

/-- The bus unit awaits the handback under the turn timer (R14). -/
def BusUnit.awaitHandback (b : BusUnit) (g : Settings) : BusUnit :=
  { b with activity := .handback, nakCount := 0, timer := some (g.wait .turn) }

/-- A write of T-FRAME reaches the waits of the frame in hand (R18). -/
def BusUnit.frameUnitsWritten (b : BusUnit) (v : Byte) : BusUnit := { b with timer := b.timer.map (·.frameUnitsWritten v) }

/-- Another slot is clocked under the frame timer already running (R9). -/
def BusUnit.repeatSlot (b : BusUnit) : BusUnit := { b with timer := b.timer.map Wait.inSlot }

/-- A NAK read or given that does not exceed the frame limit: the count rises, and the frame timer starts again for the
resend (R9, R10, R11). -/
def BusUnit.countNak (b : BusUnit) (g : Settings) : BusUnit :=
  { b with nakCount := b.nakCount + 1, timer := some (g.wait .frame) }

/-- One more NAK exceeds the frame limit, read at this moment (R12). -/
def BusUnit.nakExceeds (b : BusUnit) (g : Settings) : Bool := g.frameLimit.toNat < b.nakCount + 1

/-! ### The bus unit inside the state -/

/-- A request from the sequencer (R2). -/
def State.requestBus (s : State) (r : BusRequest) : State := s.setBus (s.bus.request s.settings r)

/-- The bus unit reaches Free (R2). -/
def State.busToFree (s : State) : State := s.setBus (s.bus.toFree s.settings)

/-- A CUT starts or is joined (R16). -/
def State.startCut (s : State) : State := s.setBus s.bus.startCut

/-- The bus unit sends a frame (R10). -/
def State.sendFrame (s : State) (act : Activity) (f : Frame) : State := s.setBus (s.bus.send s.settings act f)

/-- The bus unit waits for a station's frame (R5, R7). -/
def State.receiveFrame (s : State) : State := s.setBus (s.bus.receive s.settings)

/-- The bus unit awaits the handback (R14). -/
def State.awaitHandback (s : State) : State := s.setBus (s.bus.awaitHandback s.settings)

end Sys2Proof.Machine
end

