-- ==== Sys2Proof/Machine/Attention.lean ====
section
/-! DEFINITION. The beginning of an exchange (R20 to R22) and the attention unit (chapter 6): the ASK latch, the order of a
scan, its visits and its end. The arbiter that starts a scan stands in Machine/Sequencer.lean. -/

namespace Sys2Proof.Machine

/-! ### The start of an exchange (R20, R21, R22) -/

/-- The context at the start of an exchange (R20). -/
def Exchange.fresh (kind : ExchangeKind) (station : StationIndex) (channel : BitVec 3) (dir : Dir) (paceRequest : Bool)
    (length : Byte) : Exchange :=
  { kind := kind, station := station, channel := channel, dir := dir, paceRequest := paceRequest, length := length,
    phase := .header, answer := none, pace := none, framesDone := 0, markReceived := false, statusByte := none,
    testPassed := 0, testResult := none, outcome := none }

/-- An exchange starts: its context is made and the bus unit is asked for a header (R20). -/
def State.beginExchange (s : State) (e : Exchange) : State := (s.setExchange (some e)).requestBus .header

/-- The STATUS exchange with a station: channel 0, OUT, length 0, pace request clear (R21, R22). -/
def statusExchange (st : StationIndex) : Exchange := Exchange.fresh .status st 0 .output false 0

/-- The PROBE exchange with a station: length 2 asks for a test run when CFG.CLOCKED is set (R22). -/
def probeExchange (st : StationIndex) (cfgClocked : Bool) : Exchange :=
  Exchange.fresh .probe st 0 .output false (if cfgClocked then 2 else 0)

/-- An OPEN or SHUT exchange for a link's endpoint (R21). -/
def endpointExchange (kind : ExchangeKind) (l : Link) : Exchange :=
  Exchange.fresh kind l.station l.channel l.dir false 0

/-- A PUT or TAKE exchange for a link: the pace request is set when the station's effective pace is Clocked (R21, R22,
R51). -/
def State.dataExchange (s : State) (kind : ExchangeKind) (l : Link) (d : Dir) (length : Nat) : Exchange :=
  Exchange.fresh kind l.station l.channel d ((s.station l.station).clockedPace s.settings.clocked) (BitVec.ofNat 8 length)

/-! ### The ASK latch and the scan mask (R119, R120, R121) -/

/-- R119 applied: the latch is set when the line is asserted, CFG.SCAN is set, the mask is clear and the unit is
watching. -/
def State.judgeLatch (s : State) : State :=
  if s.pins.askLine && s.settings.scan && !s.attention.mask && s.attention.scan.isNone then
    s.setAttention { s.attention with latch := true }
  else s

/-- The latch and the mask are cleared and R119 is applied at once (R120, R121, R130). -/
def State.clearAttention (s : State) : State :=
  (s.setAttention { s.attention with latch := false, mask := false }).judgeLatch

/-! ### The order of a scan (R124) -/

/-- The rotation order from a start: every station once (R124). -/
def rotationOrder (start : StationIndex) : List StationIndex :=
  (List.range Config.stationCount).map fun k => start + Fin.ofNat Config.stationCount k

/-- The next station to visit: the first unvisited one asking, else the first Present or Unknown (R124). -/
def State.chooseVisit (s : State) (visited : List StationIndex) : Option StationIndex :=
  let order := (rotationOrder s.attention.rotation).filter fun i => !visited.contains i
  match order.find? fun i => (s.station i).askPending with
  | some i => some i
  | none => order.find? fun i => (s.station i).presence != .absent

/-- A visit begins: the station joins visited and a STATUS exchange with it begins (R125, log 9). -/
def State.beginVisit (s : State) (x : Scan) (i : StationIndex) : State :=
  (s.setAttention { s.attention with
    scan := some { x with visited := x.visited ++ [i], visits := x.visits + 1, current := some i } }).beginExchange
      (statusExchange i)

/-! ### The end of a scan (R127, R128) -/

/-- The ASK event of a scan with a claimant (R127). -/
def claimedEvent (x : Scan) (st : StationIndex) (v : Byte) (r : JobResult) : Event :=
  { kind := .claimed, source := BitVec.ofNat 8 st.val, result := .code r, count := BitVec.ofNat 16 x.visits, detail := v,
    flags := 0 }

/-- The ASK event of a scan without a claimant (R128). -/
def unclaimedEvent (x : Scan) (rotation : StationIndex) : Event :=
  { kind := .unclaimed, source := BitVec.ofNat 8 rotation.val, result := .code .done, count := BitVec.ofNat 16 x.visits,
    detail := 0, flags := 0 }

/-- The unit returns to watching, the job-turn flag is set and the sequencer enters Idle; then R119 is applied (R127,
R128). -/
def State.leaveScan (s : State) : State :=
  ((s.setAttention { s.attention with scan := none }).setSeq { s.seq with jobTurn := true, state := .idle }).judgeLatch

/-- A scan ends with its claimant: the rotation start becomes the station after it (R127). -/
def State.endScanClaimed (s : State) (x : Scan) (st : StationIndex) (v : Byte) (r : JobResult) : State :=
  ((s.setAttention { s.attention with rotation := st + 1 }).post .scan (claimedEvent x st v r)).leaveScan

/-- A scan ends without a claimant: the mask is set if the line is asserted (R121, R128). DESIGN CHOICE: where the scan starts
and ends so at an event at which the end of a job has posted a MOVER event, R135 leaves open which of the two joins the queue
first. The model puts the ASK event behind what was posted before it (log 31). -/
def State.endScanUnclaimed (s : State) (x : Scan) : State :=
  ((s.setAttention { s.attention with mask := s.attention.mask || s.pins.askLine }).post .scan
    (unclaimedEvent x s.attention.rotation)).leaveScan

/-- A scan starts: its slot is reserved, the latch is cleared, and the first visit begins, or the scan ends at once
(R123). -/
def State.startScan (s : State) : State :=
  let x : Scan := { visited := [], visits := 0, current := none, claim := none }
  let s1 := ((s.reserve .scan).setSeq { s.seq with state := .scanning }).setAttention
    { s.attention with latch := false, scan := some x }
  match s1.chooseVisit [] with
  | some i => s1.beginVisit x i
  | none => s1.endScanUnclaimed x

/-- The result a claiming visit's outcome gives the ASK event (R127). -/
def claimResult (o : ExchangeOutcome) : JobResult := if o = .complete then .done else .turnError

/-- A visit ends with an outcome: the scan ends with a claim, or without one when no station is left, or goes on at the
next step (R125, R126). -/
def State.endVisit (s : State) (o : ExchangeOutcome) : State :=
  match s.attention.scan with
  | none => s
  | some x =>
    let y := { x with current := none }
    let s1 := s.setAttention { s.attention with scan := some y }
    match y.claim with
    | some (st, v) => s1.endScanClaimed y st v (claimResult o)
    | none =>
      match s1.chooseVisit y.visited with
      | some _ => s1
      | none => s1.endScanUnclaimed y

/-- The next step of a scan: its next visit begins (R125). -/
def State.nextVisit (s : State) : State :=
  match s.attention.scan with
  | none => s
  | some x =>
    match s.chooseVisit x.visited with
    | some i => s.beginVisit x i
    | none => s.endScanUnclaimed x

/-- A visit's status byte, when the answer of the same exchange carried the ask bit, makes its station the claimant
(R126). -/
def State.recordClaim (s : State) (e : Exchange) (v : Byte) : State :=
  match s.seq.state, s.attention.scan, e.answer with
  | .scanning, some x, some a =>
    if a.ask then s.setAttention { s.attention with scan := some { x with claim := some (e.station, v) } } else s
  | _, _, _ => s

end Sys2Proof.Machine
end

