-- ==== Sys2Proof/Machine/Links.lean ====
section
/-! DEFINITION. One link record: its ring, its marks, and the claims agents make on it (chapter 4). -/

namespace Sys2Proof.Machine

/-! ### Figures of a link (R62, R70) -/

/-- 256 times the number of pages (R62). -/
def Link.capacity (l : Link) : Nat := Config.pageBytes * l.pages.length

/-- The bytes the ring holds (R70). -/
def Link.count (l : Link) : Nat := l.ring.length

/-- The free space of the ring (R70). -/
def Link.space (l : Link) : Nat := l.capacity - l.count

/-- The number of marks in the mark list (R70). -/
def Link.marks (l : Link) : Nat := l.ring.countP (·.marked)

/-- The distance to the first mark, absent when the mark list is empty (R79). -/
def Link.markDistance (l : Link) : Option Nat := (l.ring.findIdx? (·.marked)).map (· + 1)

/-- Where the byte in place `k` of the ring, 0 the oldest, is stored: a page of the list and an offset in it
(section 4.4). -/
def Link.place (l : Link) (k : Nat) : Option (Page × Nat) :=
  let p := (l.start + k) % l.capacity
  (l.pages[p / Config.pageBytes]?).map fun g => (g, p % Config.pageBytes)

/-- The link counts in the endpoint and page laws (R59, R63). -/
def Link.bound (l : Link) : Bool := l.state != .closed

/-- The link binds this endpoint (R63). -/
def Link.binds (l : Link) (st : StationIndex) (ch : BitVec 3) (d : Dir) : Bool :=
  l.bound && l.station == st && l.channel == ch && l.dir == d

/-! ### Rights by state (R72) -/

/-- A push claim's conditions but for the space: direction OUT, Opening or Open, holder as the claimant needs (R73). -/
def Link.pushAllowed (l : Link) (who : Option Chan) : Bool :=
  l.dir == .output && (l.state == .opening || l.state == .opened) && l.holder == who

/-- A pop claim's conditions: direction IN, Open, Shutting or Lost, holder as the claimant needs (R77). -/
def Link.popAllowed (l : Link) (who : Option Chan) : Bool :=
  l.dir == .input && (l.state == .opened || l.state == .shutting || l.state == .lost) && l.holder == who

/-! ### Bytes joining and leaving the ring -/

/-- A byte joins at the newest end; message-open follows the mark (R71). -/
def Link.append (l : Link) (v : Byte) (mark : Bool) : Link :=
  { l with ring := l.ring ++ [{ byte := v, marked := mark }], messageOpen := !mark }

/-- The `n` oldest bytes leave the ring with their marks, and the ring's start moves past them (section 4.4, R70). -/
def Link.dropOldest (l : Link) (n : Nat) : Link :=
  { l with ring := l.ring.drop n, start := (l.start + min n l.count) % l.capacity }

/-- Marks the last cell of a ring. -/
def markNewest : List Cell → List Cell
  | [] => []
  | [c] => [{ c with marked := true }]
  | c :: d :: rest => c :: markNewest (d :: rest)

/-- What the table answers to a push claim (R73). -/
inductive PushAnswer where
  | appended (l : Link)
  | noSpace
  | denied

/-- A push claim on an OUT ring (R73): `who` is none for the port and the channel for a mover push. -/
def Link.push (l : Link) (who : Option Chan) (v : Byte) (mark : Bool) : PushAnswer :=
  if l.pushAllowed who then
    if l.space = 0 then .noSpace else .appended (l.append v mark)
  else .denied

/-- What the table answers to a pop claim (R77). -/
inductive PopAnswer where
  | handed (c : Cell) (l : Link)
  | empty
  | denied

/-- A pop claim on an IN ring (R77). -/
def Link.pop (l : Link) (who : Option Chan) : PopAnswer :=
  if l.popAllowed who then
    match l.ring with
    | [] => .empty
    | c :: _ => .handed c (l.dropOldest 1)
  else .denied

/-- What the table answers to a mark claim (R74). -/
inductive MarkAnswer where
  | placed (l : Link)
  | refused (r : Reason)

/-- A mark claim from PORT-MARK, its checks in the order of R74 and R149. The byte in flight is the oldest, so it is the
newest exactly when the ring holds one byte (R75). -/
def Link.mark (l : Link) : MarkAnswer :=
  if l.pushAllowed none then
    match l.ring.getLast? with
    | none => .refused .nothingToMark
    | some c =>
      if c.marked || (l.inFlight && l.count == 1) then .refused .nothingToMark
      else if Config.markLimit ≤ l.marks then .refused .marksFull
      else .placed { l with ring := markNewest l.ring, messageOpen := false }
  else .refused .portDenied

/-- The bytes a skip discards: up to and including the first mark, or all (R78). -/
def Link.skipCount (l : Link) : Nat := l.markDistance.getD l.count

/-- A skip claim from PORT-SKIP (R78): none when it is denied. -/
def Link.skip (l : Link) : Option Link :=
  if l.popAllowed none then some (l.dropOldest l.skipCount) else none

/-! ### The bytes of exchanges -/

/-- A TAKE's append (R76): the total rises, wrapping. -/
def Link.takeAppend (l : Link) (v : Byte) (mark : Bool) : Link :=
  { l.append v mark with total := l.total + 1 }

/-- The oldest byte goes in flight in a PUT data frame (R75). -/
def Link.putInFlight (l : Link) : Link := { l with inFlight := true }

/-- The byte in flight stops being so and stays the oldest byte (R75). -/
def Link.putBack (l : Link) : Link := { l with inFlight := false }

/-- The frame's ACK was read: the byte in flight leaves with its mark, and the total rises, wrapping (R75). -/
def Link.putRemove (l : Link) : Link :=
  { l.dropOldest 1 with total := l.total + 1, inFlight := false }

/-! ### Opening and closing -/

/-- The record after an open claim that passes (R63). -/
def Link.openWith (l : Link) (st : StationIndex) (ch : BitVec 3) (d : Dir) (pages : List Page) : Link :=
  { l with state := .opening, station := st, channel := ch, dir := d, pages := pages, start := 0, ring := [],
           inFlight := false, messageOpen := false, holder := none, total := 0 }

/-- The record after a close: endpoint and total are kept (R67). The storage start of a Closed link is 0, a DESIGN CHOICE
(log 30). -/
def Link.closed (l : Link) : Link :=
  { l with state := .closed, pages := [], start := 0, ring := [], inFlight := false, messageOpen := false,
           holder := none }

/-- The twelve link indices. -/
def allLinks : List LinkIndex := [0, 1, 2, 3, 4, 5, 6, 7, 8, 9, 10, 11]

/-- No other link that is not Closed has the endpoint (R63). -/
def State.endpointFree (s : State) (i : LinkIndex) (st : StationIndex) (ch : BitVec 3) (d : Dir) : Bool :=
  allLinks.all fun j => j == i || !(s.link j).binds st ch d

/-- The answer to an open claim: the failing check's result, or the state with the link Opening (R63, R60). -/
def State.openClaim (s : State) (i : LinkIndex) (st : StationIndex) (ch : BitVec 3) (d : Dir) (n : Nat) :
    Except JobResult State :=
  if (s.link i).bound then .error .linkState
  else if !s.endpointFree i st ch d then .error .linkConflict
  else if s.freePages.length < n then .error .noPages
  else .ok ((s.setLink i ((s.link i).openWith st ch d (s.freePages.take n))).setFreePages (s.freePages.drop n))

/-- The pages of a list return to the free set, which is kept lowest first (R61). -/
def State.returnPages (s : State) (pages : List Page) : State :=
  s.setFreePages (allPages.filter fun p => s.freePages.contains p || pages.contains p)

/-! ### Data claims (R79) -/

/-- The failing answer of a PUT's data claim, if any (R79). -/
def Link.putClaim (l : Link) : Option JobResult :=
  if l.state = .lost then some .linkLost
  else if l.state ≠ .opened then some .linkState
  else if l.dir ≠ .output then some .wrongWay
  else none

/-- The failing answer of a TAKE's data claim, if any (R79). -/
def Link.takeClaim (l : Link) : Option JobResult :=
  if l.state = .lost then some .linkLost
  else if l.state ≠ .opened then some .linkState
  else if l.dir ≠ .input then some .wrongWay
  else if Config.markLimit ≤ l.marks then some .marksFull
  else if l.space = 0 then some .ringFull
  else none

/-- The length of a PUT exchange: the least of 255, the limit less the bytes moved, the bytes held and the distance to the
first mark (R102). -/
def Link.putLength (l : Link) (left : Nat) : Nat :=
  min (min 255 left) (min l.count (l.markDistance.getD l.count))

/-- The length of a TAKE exchange: the least of 255, the limit less the bytes moved and the free space (R104). -/
def Link.takeLength (l : Link) (left : Nat) : Nat := min (min 255 left) l.space

end Sys2Proof.Machine
end

