-- ==== Sys2Proof/Machine/MoverOps.lean ====
section
/-! DEFINITION. The host memory mover (chapter 9): work, the channel arbiter, byte moves and the end of a run; and the link
table's close, which sends a bound channel its stop notice (R67). -/

namespace Sys2Proof.Machine

/-! ### Work and the arbiter -/

/-- A Running channel has work while a byte move on its link would find what it needs (R158). -/
def State.hasWork (s : State) (c : Chan) : Bool :=
  let ch := s.chan c
  ch.running && ch.stopPending.isNone &&
    match ch.dir with
    | .input => (s.link ch.link).count != 0
    | .output => (s.link ch.link).space != 0

/-- The channel the arbiter chooses at a byte boundary (R161). -/
def State.chooseChannel (s : State) : Option Chan :=
  match s.hasWork .a, s.hasWork .b with
  | true, true => some s.mover.lastServed.other
  | true, false => some .a
  | false, true => some .b
  | false, false => none

/-- The first step of a channel's byte move (R160): an IN channel makes its pop claim, an OUT channel begins its host
read. The record of the channel last served becomes this one (R161). -/
def State.startMove (s : State) (c : Chan) : State :=
  let ch := s.chan c
  let m := { s.mover with lastServed := c }
  match ch.dir with
  | .output => s.setMover { m with move := some { chan := c, popped := none } }
  | .input =>
    match (s.link ch.link).pop (some c) with
    | .handed cell l => (s.setLink ch.link l).setMover { m with move := some { chan := c, popped := some cell } }
    | _ => s.setMover { m with move := some { chan := c, popped := none } }

/-- A byte boundary: while BGNT is given and no move is in progress, the next byte move begins if a channel has work
(R159, R160, R161, log 13). -/
def State.nextMove (s : State) : State :=
  if s.pins.bgnt && s.mover.move.isNone then
    match s.chooseChannel with
    | some c => s.startMove c
    | none => s
  else s

/-! ### The end of a run -/

/-- The MOVER event of a run (R167, R132). -/
def Channel.runEvent (ch : Channel) (c : Chan) (r : StopReason) : Event :=
  { kind := r.eventKind, source := BitVec.ofNat 8 (chanCode c), result := .stop r, count := ch.moved,
    detail := BitVec.ofNat 8 ch.link.val, flags := 0 }

/-- Clears a link's holder if it is this channel (R80, R167). -/
def Link.release (l : Link) (c : Chan) : Link := if l.holder = some c then { l with holder := none } else l

/-- A run ends: the channel is Idle, its link's holder is cleared and its MOVER event is posted (R167). -/
def State.endRun (s : State) (c : Chan) (r : StopReason) : State :=
  let ch := s.chan c
  ((s.setLink ch.link ((s.link ch.link).release c)).setChan c { ch with running := false, stopPending := none }).post
    (.channel c) (ch.runEvent c r)

/-- The channel has the byte move in progress. -/
def State.moving (s : State) (c : Chan) : Bool :=
  match s.mover.move with
  | some m => m.chan == c
  | none => false

/-- An outside stop reaches a channel (R166): it ends the run at once, or waits as the stop pending while the channel's
move is in progress; the first reason stands. An Idle channel has no run to stop. -/
def State.stopChannel (s : State) (c : Chan) (r : StopReason) : State :=
  let ch := s.chan c
  if ch.running then
    if s.moving c then s.setChan c { ch with stopPending := some (ch.stopPending.getD r) } else s.endRun c r
  else s

/-! ### Starting and stopping -/

/-- The states and direction a link needs for MOVER-START (R157, check 3). -/
def Link.startable (l : Link) : Bool :=
  match l.dir with
  | .input => l.state == .opened || l.state == .shutting || l.state == .lost
  | .output => l.state == .opening || l.state == .opened

/-- The first failing check of MOVER-START, if any (R157). -/
def State.startRefusal (s : State) (c : Chan) : Option Reason :=
  let ch := s.chan c
  let l := s.link ch.link
  if ch.running then some .channelRunning
  else if ch.count = 0 then some .zeroCount
  else if !l.startable then some .linkStateBad
  else if l.holder.isSome then some .linkBusy
  else if l.dir == .output && ch.mode && Config.markLimit ≤ l.marks then some .marksFull
  else if s.freeSlots = 0 then some .noEventSlot
  else none

/-- A MOVER-START that is taken: the slot is reserved, the link held and the channel Running (R157). -/
def State.startRun (s : State) (c : Chan) : State :=
  let ch := s.chan c
  let l := s.link ch.link
  ((s.setLink ch.link { l with holder := some c }).setChan c
    { ch with running := true, dir := l.dir, moved := 0, stopPending := none }).reserve (.channel c)

/-! ### Completion of a byte move (R160, R165, R166) -/

/-- A counted byte: the address rises, wrapping, the count falls and moved rises (R160). -/
def Channel.counted (ch : Channel) : Channel :=
  { ch with addr := ch.addr + 1, count := ch.count - 1, moved := ch.moved + 1 }

/-- The second step of a move: the host write of the popped byte, or the push claim of the byte read from host memory.
The answer says whether the move is counted and whether its byte was a popped byte with a mark. -/
def State.finishMove (s : State) (m : Move) (hostByte : Byte) : State × Bool × Bool :=
  let ch := s.chan m.chan
  match ch.dir with
  | .input =>
    match m.popped with
    | some cell => (s.setPins { s.pins with hostWrite := some { addr := ch.addr, data := cell.byte } }, true, cell.marked)
    | none => (s, false, false)
  | .output =>
    match (s.link ch.link).push (some m.chan) hostByte (ch.mode && ch.count == 1) with
    | .appended l => (s.setLink ch.link l, true, false)
    | _ => (s, false, false)

/-- The natural end judged at a completion (R165): MARK before COUNT, and neither for a refused claim. `ch` is the channel
after the counting. -/
def Channel.naturalEnd (ch : Channel) (taken marked : Bool) : Option StopReason :=
  if !taken then none
  else if ch.dir == .input && ch.mode && marked then some .mark
  else if ch.count = 0 then some .count
  else none

/-- How a run ends at a completion: with its pending stop, else by R165, else not. -/
def Channel.completionEnd (ch : Channel) (taken marked : Bool) : Option StopReason :=
  match ch.stopPending with
  | some r => some r
  | none => ch.naturalEnd taken marked

/-- A byte move completes (R160): it is counted if its claim was taken, the run's end is judged, and the next move is
chosen. -/
def State.completeMove (s : State) (m : Move) (hostByte : Byte) : State :=
  let f := s.finishMove m hostByte
  let ch := if f.2.1 then (s.chan m.chan).counted else s.chan m.chan
  let s2 := (f.1.setChan m.chan ch)
  let s3 := s2.setMover { s2.mover with move := none }
  let s4 :=
    match ch.completionEnd f.2.1 f.2.2 with
    | some r => s3.endRun m.chan r
    | none => s3
  s4.nextMove

/-- SOFT-RESET abandons a move, but its host access is finished on the host bus (R168): a byte already popped is written.
DESIGN CHOICE: R168 does not say when it is finished. The model finishes it at the SOFT-RESET's own event, and a completion
that comes later does nothing (log 32). -/
def State.abandonMove (s : State) : State :=
  match s.mover.move with
  | some { chan := c, popped := some cell } =>
    s.setPins { s.pins with hostWrite := some { addr := (s.chan c).addr, data := cell.byte } }
  | _ => s

/-- A channel after SOFT-RESET: Idle, with its registers kept (R168). -/
def Channel.softReset (ch : Channel) : Channel := { ch with running := false, stopPending := none }

/-- The mover after SOFT-RESET (R168). -/
def Mover.softReset (m : Mover) : Mover :=
  { a := m.a.softReset, b := m.b.softReset, lastServed := .b, move := none }

/-! ### The close of a link (R67) -/

/-- Closes a link: a bound channel loses its hold and is stopped with the reason, the ring and marks are discarded and the
pages returned (R67). The discarded count is the count of the ring before. -/
def State.closeLink (s : State) (i : LinkIndex) (r : StopReason) : State :=
  let l := s.link i
  let s1 := (s.setLink i l.closed).returnPages l.pages
  match l.holder with
  | some c => s1.stopChannel c r
  | none => s1

/-- A shut claim on an Open link: a bound channel is stopped with SHUT, and the link is Shutting (R65). DESIGN CHOICE: where the
SHUT job starts at an event at which a job or a scan has just ended, R135 leaves open which of the two events joins the queue
first. The model puts the channel's MOVER event behind the one posted before it (log 31). -/
def State.shutOpenLink (s : State) (i : LinkIndex) : State :=
  let l := s.link i
  let s1 := s.setLink i { l with state := .shutting, holder := none }
  match l.holder with
  | some c => s1.stopChannel c .shut
  | none => s1

/-- SOFT-RESET closes every link that is not Closed, with no stop notice (R69), and all pages are free (R59). -/
def State.closeAllLinks (s : State) : State :=
  (s.setLinks (mapTable (fun l => if l.bound then l.closed else { l with holder := none }) s.links)).setFreePages allPages

/-- A bus reset makes an Open link Lost; an OUT link loses its holder (R68). -/
def Link.busReset (l : Link) : Link :=
  if l.state = .opened then
    { l with state := .lost, holder := match l.dir with | .output => none | .input => l.holder }
  else l

/-- The channel is bound to an Open OUT link, which a bus reset stops (R68). -/
def State.losesLink (s : State) (c : Chan) : Bool :=
  allLinks.any fun i => (s.link i).state == .opened && (s.link i).dir == .output && (s.link i).holder == some c

/-- The link table's and the mover's side of a pulse completion (R68, R166). When both channels are stopped, their
postings join the queue in either order (R135, R142): the order is a free value (log 8). -/
def State.loseLinks (s : State) : State :=
  let s1 := s.setLinks (mapTable Link.busReset s.links)
  match s.losesLink .a, s.losesLink .b with
  | true, true =>
    let s2 := s1.setFreeTick (s.freeTick + 1)
    if Config.postingOrder s.freeTick % 2 = 0 then (s2.stopChannel .a .lost).stopChannel .b .lost
    else (s2.stopChannel .b .lost).stopChannel .a .lost
  | true, false => s1.stopChannel .a .lost
  | false, true => s1.stopChannel .b .lost
  | false, false => s1

end Sys2Proof.Machine
end

