-- ==== Sys2Proof/Machine/Sequencer.lean ====
section
/-! DEFINITION. The job queue and the sequencer (chapter 5): jobs' starts, what an exchange's outcome does to its job, a job's
end, and the station bus arbiter. -/

namespace Sys2Proof.Machine

/-! ### The Active job -/

/-- The job context at a job's start (R93). -/
def JobContext.fresh : JobContext :=
  { bytesMoved := 0, busyCount := 0, msgEnd := false, emptyAnswer := false, demoted := false, localClose := false,
    testClk := false, census := 0, visit := 0, statusByte := none, probe := .none }

/-- The Active job's record and context: the head of the queue, when it is Active (R86). -/
def State.activeJob (s : State) : Option (Job × JobContext) :=
  match s.jobs, s.active with
  | j :: _, some x => some (j, x)
  | _, _ => none

/-- Changes the Active job's context. -/
def State.mapActive (s : State) (f : JobContext → JobContext) : State := s.setActive (s.active.map f)

/-- Changes the link of the Active job. -/
def State.mapJobLink (s : State) (f : Link → Link) : State :=
  match s.activeJob with
  | some (j, _) => s.setLink j.linkIndex (f (s.link j.linkIndex))
  | none => s

/-- The Active job is a CENSUS. -/
def State.inCensus (s : State) : Bool :=
  match s.activeJob with
  | some (j, _) => j.kind == .census
  | none => false

/-- The sequencer's state changes. -/
def State.setSeqState (s : State) (q : SeqState) : State := s.setSeq { s.seq with state := q }

/-! ### The completion event (R114) -/

/-- The flags byte of a JOB event (R179). -/
def JobContext.flagByte (x : JobContext) : Byte :=
  byteOfBits false false false x.testClk x.localClose x.demoted x.emptyAnswer x.msgEnd

/-- The number of stations a census recorded present (R109). -/
def censusCount (r : BitVec 14) : Nat := onesBelow r.toNat Config.stationCount

/-- The count of a JOB event by kind (R114). -/
def Job.eventCount (j : Job) (x : JobContext) (discarded : Nat) : Nat :=
  match j.kind with
  | .shut => discarded
  | .put => x.bytesMoved
  | .take => x.bytesMoved
  | .census => censusCount x.census
  | _ => 0

/-- The detail of a JOB event by kind (R114). -/
def Job.eventDetail (j : Job) (x : JobContext) (discarded : Nat) : Byte :=
  match j.kind with
  | .openLink => BitVec.ofNat 8 x.busyCount
  | .shut => BitVec.ofNat 8 discarded
  | .put => BitVec.ofNat 8 x.busyCount
  | .take => BitVec.ofNat 8 x.busyCount
  | .status => x.statusByte.getD 0
  | .probe => BitVec.ofNat 8 x.probe.code
  | .census => x.census.setWidth 8
  | .busReset => 0

/-- The flags of a JOB event: a census carries the record of stations 8 to 13 in their place (R109, R114). -/
def Job.eventFlags (j : Job) (x : JobContext) : Byte :=
  match j.kind with
  | .census => (x.census >>> 8).setWidth 8
  | _ => x.flagByte

/-- The completion event of a job (R114). -/
def Job.event (j : Job) (x : JobContext) (r : JobResult) (discarded : Nat) : Event :=
  { kind := .job j.kind, source := j.tag, result := .code r, count := BitVec.ofNat 16 (j.eventCount x discarded),
    detail := j.eventDetail x discarded, flags := j.eventFlags x }

/-! ### The end of a job (R115) -/

/-- What a job's ending does to its link: nothing, the "opened" notice (R64), or a close with a stop reason (R66, R67). -/
inductive Cleanup where
  | keep
  | opened
  | close (r : StopReason)
deriving DecidableEq, Repr

/-- The cleanup of a kind: an OPEN gives "opened" or "not opened" (R64), a SHUT its end notice (R66). -/
def JobKind.cleanup (k : JobKind) (opened : Bool) : Cleanup :=
  match k with
  | .openLink => if opened then .opened else .close .link
  | .shut => .close .link
  | _ => .keep

/-- Applies a cleanup to the job's link, with the discarded count (R67). -/
def State.cleanUp (s : State) (i : LinkIndex) : Cleanup → State × Nat
  | .keep => (s, 0)
  | .opened => (s.setLink i { s.link i with state := .opened }, 0)
  | .close r => (s.closeLink i r, (s.link i).count)

/-- The Active job leaves the queue and the sequencer enters Idle (R87, R115). -/
def State.leaveQueue (s : State) : State :=
  ((((s.setQroomOnFall s.jobs.length s.jobs.tail.length).setJobs s.jobs.tail).setActive none).setExchange none).setSeqState
    .idle

/-- The Active job ends in one step: cleanup, completion event, leaving the queue, Idle (R115). The arbiter's decision
follows in `State.decide`. `heldBefore` is the number of events held before this event: what the queue holds beyond it are
the mover's postings of the same event, which the completion event joins in either order (R135, R142). -/
def State.endJobSince (s : State) (heldBefore : Nat) (r : JobResult) (c : Cleanup) : State :=
  match s.activeJob with
  | none => s.setSeqState .idle
  | some (j, x) =>
    let d := s.cleanUp j.linkIndex c
    (d.1.postAmong (d.1.events.held.length - heldBefore) .job (j.event x r d.2)).leaveQueue

/-- The Active job ends at an event at which no posting of its own work comes before its cleanup (R115). DESIGN CHOICE: where
the job ends at its start, at an event at which an earlier end has posted a MOVER event, R135 leaves open which of that event
and this JOB event joins the queue first. The model puts the JOB event behind it (log 31). -/
def State.endJob (s : State) (r : JobResult) (c : Cleanup) : State := s.endJobSince s.events.held.length r c

/-! ### The start of an exchange of a job (section 5.7) -/

/-- A PUT's data claim and, if it passes with bytes held, its exchange (R102). -/
def State.startPut (s : State) (j : Job) (x : JobContext) : State :=
  let l := s.link j.linkIndex
  match l.putClaim with
  | some r => s.endJob r .keep
  | none =>
    if l.count = 0 then s.endJob .done .keep
    else s.beginExchange (s.dataExchange .put l .output (l.putLength (j.limit.toNat - x.bytesMoved)))

/-- A TAKE's data claim and, if it passes, its exchange; a full ring at a later exchange ends the job DONE (R104). -/
def State.startTake (s : State) (j : Job) (x : JobContext) (later : Bool) : State :=
  let l := s.link j.linkIndex
  match l.takeClaim with
  | some r => s.endJob (if later && r == .ringFull then .done else r) .keep
  | none => s.beginExchange (s.dataExchange .take l .input (l.takeLength (j.limit.toNat - x.bytesMoved)))

/-- The Active job begins an exchange, built from the state at this event. `later` marks a later exchange of a
multi-exchange job (R98, R104). -/
def State.startExchange (s : State) (later : Bool) : State :=
  match s.activeJob with
  | none => s
  | some (j, x) =>
    match j.kind with
    | .openLink => s.beginExchange (endpointExchange .openChannel (s.link j.linkIndex))
    | .shut => s.beginExchange (endpointExchange .shut (s.link j.linkIndex))
    | .put => s.startPut j x
    | .take => s.startTake j x later
    | .status => s.beginExchange (statusExchange j.stationIndex)
    | .probe => s.beginExchange (probeExchange j.stationIndex s.settings.clocked)
    | .census => s.beginExchange (statusExchange x.visit)
    | .busReset => s

/-! ### The start of a job (R93) -/

/-- The start of an OPEN job: the open claim, then the exchange (R99). -/
def State.startOpen (s : State) (j : Job) : State :=
  match s.openClaim j.linkIndex j.stationIndex j.channel j.dir j.pages.toNat with
  | .error r => s.endJob r .keep
  | .ok s1 => s1.startExchange false

/-- The start of a SHUT job: the shut claim, then the local close or the exchange (R65, R100). -/
def State.startShut (s : State) (j : Job) : State :=
  match (s.link j.linkIndex).state with
  | .opened => (s.shutOpenLink j.linkIndex).startExchange false
  | .lost => (s.mapActive fun x => { x with localClose := true }).endJob .done (.close .shut)
  | _ => s.endJob .linkState .keep

/-- The head job starts: its slot is reserved, it becomes Active with a fresh context, the job-turn flag is cleared, and
its kind's start is applied (R93, R110). -/
def State.startJob (s : State) : State :=
  match s.jobs with
  | [] => s
  | j :: _ =>
    let q := if j.kind = .busReset then SeqState.resetting else SeqState.running
    let s1 := ((s.reserve .job).setActive (some JobContext.fresh)).setSeq { s.seq with jobTurn := false, state := q }
    match j.kind with
    | .openLink => s1.startOpen j
    | .shut => s1.startShut j
    | .busReset => s1.requestBus .pulse
    | _ => s1.startExchange false

/-! ### The station bus arbiter (R90, R91, R92) -/

/-- What a decision can start. -/
inductive Start where
  | scan
  | job
deriving DecidableEq, Repr

/-- The table of R90. -/
def State.namedStart (s : State) : Option Start :=
  if s.attention.latch && s.settings.scan && !s.attention.mask then
    if s.seq.jobTurn && !s.jobs.isEmpty then some .job else some .scan
  else if s.jobs.isEmpty then none else some .job

/-- Carries out a named start. -/
def State.carryOut (s : State) : Start → State
  | .scan => s.startScan
  | .job => s.startJob

/-- The arbiter decides while the sequencer is Idle. A start that ends at its own event leaves the sequencer Idle, and the
arbiter decides again (R90, R115); `fuel` bounds these decisions (log 20). What a start posts joins the queue behind what
the event posted before it (log 31). -/
def State.arbitrate : Nat → State → State
  | 0, s => s
  | fuel + 1, s =>
    if s.seq.state = .idle then
      match s.namedStart with
      | none => s.setSeq { s.seq with stall := false }
      | some w =>
        if s.freeSlots = 0 then s.setSeq { s.seq with stall := true }
        else State.arbitrate fuel ((s.setSeq { s.seq with stall := false }).carryOut w)
    else s

/-- The arbiter's decision: each queued job can end at its start once, and one scan can, before a decision names no
start (log 20). -/
def State.decide (s : State) : State := State.arbitrate (s.jobs.length + 2) s

/-- The arbiter decides at the event at which the sequencer enters Idle (R90). -/
def State.settle (before after : State) : State :=
  if before.seq.state = .idle then after else after.decide

/-! ### From exchange outcomes to the job (R94, R95) -/

/-- The sequencer takes an ended exchange's counts into the job context (R94, R20, R105, R107). -/
def JobContext.absorb (x : JobContext) (e : Exchange) : JobContext :=
  { x with
    bytesMoved := x.bytesMoved + e.framesDone
    msgEnd := x.msgEnd || e.markReceived
    statusByte := if e.statusByte.isSome then e.statusByte else x.statusByte
    probe := match e.testResult with
      | some t => if t.clocked then .clocked else .basic
      | none => x.probe
    testClk := match e.testResult with
      | some t => x.testClk || (t.clocked && t.passed)
      | none => x.testClk }

/-- The result code of a job ended by an outcome. -/
def ExchangeOutcome.result : ExchangeOutcome → JobResult
  | .complete => .done
  | .emptyAnswer => .done
  | .busy => .busyLimit
  | .noChannel => .noChannel
  | .wrongState => .wrongState
  | .noStation => .noStation
  | .frameError => .frameError
  | .frameTimeout => .frameTimeout
  | .turnError => .turnError
  | .protocolError => .protocolError
  | .cutByRequest => .aborted

/-- A failure of the wire or the protocol, whose exchange ends through a CUT (section 2.6). -/
def ExchangeOutcome.failure : ExchangeOutcome → Bool
  | .frameError => true
  | .frameTimeout => true
  | .turnError => true
  | .protocolError => true
  | _ => false

/-- The exchange's answer was ACCEPT. -/
def Exchange.accepted (e : Exchange) : Bool :=
  match e.answer with
  | some a => a.accepts
  | none => false

/-- An OPEN job gives "opened" when its exchange was answered ACCEPT and ended COMPLETE or in TURN-ERROR (R64, R99). -/
def Exchange.opens (e : Exchange) (o : ExchangeOutcome) : Bool :=
  e.accepted && (o == .complete || o == .turnError)

/-- A BUSY outcome (R95): BUSY-LIMIT, Holding, or the repeat exchange at once. -/
def State.busyOutcome (s : State) (j : Job) (x : JobContext) : State :=
  let n := x.busyCount + 1
  let s1 := s.setActive (some { x with busyCount := n })
  if s.settings.busyLimit.toNat < n then s1.endJob .busyLimit (j.kind.cleanup false)
  else if s.settings.busyDelay = 0 then s1.startExchange false
  else s1.setSeq { s1.seq with state := .holding, holdMs := s.settings.busyDelay }

/-- A COMPLETE outcome of a PUT or TAKE: DONE at a mark or at the limit, else the job stays between exchanges (R103,
R105). -/
def State.dataComplete (s : State) (j : Job) (x : JobContext) : State :=
  if x.msgEnd || x.bytesMoved == j.limit.toNat then s.endJob .done .keep else s

/-- The census records a visit: present for every outcome but NO-STATION and a cut by request; a failure gives the census
error report (R108, R52, R109). -/
def State.recordVisit (s : State) (e : Exchange) (o : ExchangeOutcome) : State :=
  let s1 := if o.failure then s.reportStation e.station Station.censusError else s
  if o == .complete || o == .busy || o.failure then
    s1.mapActive fun x => { x with census := x.census ||| (1 <<< e.station.val) }
  else s1

/-- A census visit ends: after visit 13 the job is DONE, else the next visit is the next step (R108). -/
def State.endCensusVisit (s : State) (e : Exchange) (o : ExchangeOutcome) (x : JobContext) : State :=
  let s1 := s.recordVisit e o
  if x.visit.val = 13 then s1.endJob .done .keep else s1.mapActive fun y => { y with visit := x.visit + 1 }

/-- An exchange of the Active job has ended with an outcome (R94). -/
def State.jobOutcome (s : State) (e : Exchange) (o : ExchangeOutcome) : State :=
  match s.activeJob with
  | none => s
  | some (j, x0) =>
    let x := x0.absorb e
    let s1 := s.setActive (some x)
    if j.kind = .census then s1.endCensusVisit e o x
    else
      match o with
      | .busy => s1.busyOutcome j x
      | .emptyAnswer =>
        (s1.setActive (some { x with emptyAnswer := true })).endJob .done (j.kind.cleanup false)
      | .complete =>
        if j.kind = .put ∨ j.kind = .take then s1.dataComplete j x else s1.endJob .done (j.kind.cleanup (e.opens o))
      | _ => s1.endJob o.result (j.kind.cleanup (e.opens o))

/-- The exchange ends with an outcome that calls for no CUT: the bus unit is Free and the outcome goes to the job or the
scan (section 2.6). -/
def State.endExchange (s : State) (e : Exchange) (o : ExchangeOutcome) : State :=
  let s1 := (s.setExchange none).busToFree
  match s1.seq.state with
  | .scanning => s1.endVisit o
  | .running => s1.jobOutcome e o
  | _ => s1

/-! ### Failures and CUTs (R39, R40) -/

/-- A report on a Clocked data phase or test run; when it demotes the station, the notice sets the Active job's DEMOTED
flag (R49, R50, R97). -/
def State.reportPace (s : State) (i : StationIndex) (f : Station → Station) : State :=
  let s1 := s.reportStation i f
  if !(s.station i).demoted && (f (s.station i)).demoted then s1.mapActive fun x => { x with demoted := true } else s1

/-- The pace fixed at the answer is Clocked. -/
def Exchange.isClocked (e : Exchange) : Bool :=
  match e.pace with
  | some (.clocked _) => true
  | _ => false

/-- The exchange is in a PUT's or TAKE's data phase (R38). -/
def Exchange.inDataPhase (e : Exchange) : Bool :=
  (e.kind == .put && e.phase == .outbound) || (e.kind == .take && e.phase == .inbound)

/-- The exchange is in a PROBE's test run (R37). -/
def Exchange.inTestRun (e : Exchange) : Bool := e.kind == .probe && e.phase == .outbound

/-- The outcome is FRAME-ERROR or FRAME-TIMEOUT. -/
def ExchangeOutcome.framing : ExchangeOutcome → Bool
  | .frameError => true
  | .frameTimeout => true
  | _ => false

/-- The station table reports a failure makes, at the failure event (R37, R38, R39). -/
def State.failureReports (s : State) (e : Exchange) (o : ExchangeOutcome) : State :=
  if o.framing && e.isClocked && e.inDataPhase then s.reportPace e.station Station.phaseFailed
  else if o.framing && e.isClocked && e.inTestRun then s.reportPace e.station (Station.testReport · false)
  else s

/-- The context of a failed exchange: in Cut with its outcome, and the test result of a failed test run (R37, R39). -/
def Exchange.failed (e : Exchange) (o : ExchangeOutcome) : Exchange :=
  { e with phase := .cut, outcome := some o,
           testResult := if o.framing && e.inTestRun then some { clocked := e.isClocked, passed := false } else e.testResult }

/-- A PUT's byte in flight stops being so (R75). -/
def State.putBackByte (s : State) (e : Exchange) : State :=
  if e.kind = .put then s.mapJobLink Link.putBack else s

/-- The sequencer enters Cutting for a job exchange; a census visit stays Running and a scan visit Scanning (R39, R94). -/
def State.cutForJob (s : State) : State :=
  if s.seq.state = .running ∧ s.inCensus = false then s.setSeqState .cutting else s

/-- The exchange in progress fails: its reports are made and a CUT starts (R16, R39). -/
def State.failExchange (s : State) (e : Exchange) (o : ExchangeOutcome) : State :=
  ((((s.failureReports e o).putBackByte e).setExchange (some (e.failed o))).startCut).cutForJob

/-- The context of an exchange cut by request: its outcome is recorded if absent (R40). -/
def Exchange.cut (e : Exchange) : Exchange := { e with phase := .cut, outcome := some (e.outcome.getD .cutByRequest) }

/-- The sequencer requests a CUT for the exchange in progress (R40, R75). -/
def State.cutExchange (s : State) (e : Exchange) : State :=
  ((s.putBackByte e).setExchange (some e.cut)).startCut

/-- The CUT through which an exchange ends has completed (R39, R116). In Cutting with no Active job, a SOFT-RESET has
discarded the job; in Cutting with an Active CENSUS, an ABORT ends it (R109, R111). -/
def State.endCut (s : State) (e : Exchange) : State :=
  let o := e.outcome.getD .cutByRequest
  let s1 := (s.setExchange none).busToFree
  match s1.seq.state with
  | .scanning => s1.endVisit o
  | .running => s1.jobOutcome e o
  | .cutting =>
    match s1.activeJob with
    | none => s1.setSeqState .idle
    | some (j, _) =>
      if j.kind = .census then (s1.recordVisit e o).endJob .aborted .keep else s1.jobOutcome e o
  | _ => s1

/-! ### Steps of the phases (chapter 2) -/

/-- The exchange enters Handback and the bus unit awaits it (R28, R30, R34, R36). -/
def State.enterHandback (s : State) (e : Exchange) : State :=
  (s.setExchange (some { e with phase := .handback })).awaitHandback

/-- The exchange enters Inbound, or goes on in it, and the bus unit waits for a frame (R31, R32). -/
def State.enterInbound (s : State) (e : Exchange) : State :=
  (s.setExchange (some { e with phase := .inbound })).receiveFrame

/-- The step for a PUT data frame: the oldest byte goes in flight and its frame is sent, with its mark (R34, R75). -/
def State.sendPutByte (s : State) (e : Exchange) : State :=
  match s.activeJob with
  | none => s
  | some (j, _) =>
    match (s.link j.linkIndex).ring with
    | [] => s
    | c :: _ =>
      ((s.mapJobLink Link.putInFlight).setExchange (some { e with phase := .outbound })).sendFrame .sending
        { data := c.byte, mark := c.marked }

/-- The step for a PROBE test frame (R36). -/
def State.sendTest (s : State) (e : Exchange) : State :=
  (s.setExchange (some { e with phase := .outbound })).sendFrame .sending (testFrame e.testPassed)

/-- The bus unit reports the handback (R28, R30, R31, R33, R34, R36). -/
def State.takeHandback (s : State) (e : Exchange) : State :=
  match e.answer with
  | none => s
  | some a =>
    if !a.accepts then s.endExchange e a.outcome
    else
      match e.kind with
      | .put => s.sendPutByte e
      | .probe => if e.length = 0 then s.endExchange e .complete else s.sendTest e
      | _ => s.endExchange e .complete

/-- The pace fixed at the answer (R25). -/
def Exchange.paceAt (e : Exchange) (a : Answer) (rate : BitVec 2) : Pace :=
  if a.capability && (e.paceRequest || (e.kind == .probe && e.length == 2)) then .clocked rate else .basic

/-- The bus unit reports the answer (R25, R26, R27): it is reported to the station table, the pace is fixed, and the phase
that the code and the kind name follows. -/
def State.takeAnswer (s : State) (e0 : Exchange) (a : Answer) : State :=
  let e := { e0 with answer := some a, pace := some (e0.paceAt a s.settings.clkRate) }
  let s1 := s.reportStation e.station (·.answerReport a)
  if !a.validFor e.kind then s1.failExchange e .protocolError
  else if !a.accepts then s1.enterHandback e
  else
    match e.kind with
    | .status => s1.enterInbound e
    | .take => s1.enterInbound e
    | _ => s1.enterHandback e

/-- The bus unit reports a status frame (R31, R47, R126). -/
def State.takeStatus (s : State) (e : Exchange) (v : Byte) : State :=
  ((s.reportStation e.station (·.statusReport v)).recordClaim e v).enterHandback { e with statusByte := some v }

/-- The "Clocked phase good" report at the end of a Clocked data phase (R38, R48). -/
def State.goodPhase (s : State) (e : Exchange) : State :=
  if e.isClocked then s.reportStation e.station Station.phaseGood else s

/-- The bus unit reports a TAKE data frame (R32, R76, R38). -/
def State.takeData (s : State) (e0 : Exchange) (v : Byte) (mark : Bool) : State :=
  let s1 := s.mapJobLink fun l => l.takeAppend v mark
  let e := { e0 with framesDone := e0.framesDone + 1, markReceived := e0.markReceived || mark }
  if mark || e.framesDone == e.length.toNat then (s1.goodPhase e).enterHandback e else s1.enterInbound e

/-- The bus unit reports a PUT data frame sent (R35, R38, R103). -/
def State.putByteSent (s : State) (e0 : Exchange) (mark : Bool) : State :=
  let s1 := (s.mapJobLink Link.putRemove).mapActive fun x => { x with msgEnd := x.msgEnd || mark }
  let e := { e0 with framesDone := e0.framesDone + 1 }
  if e.framesDone == e.length.toNat then (s1.goodPhase e).endExchange e .complete else s1.sendPutByte e

/-- The bus unit reports a test frame sent (R36, R37, R50). -/
def State.testSent (s : State) (e0 : Exchange) : State :=
  let e := { e0 with testPassed := e0.testPassed + 1 }
  if e.testPassed = 1 then s.sendTest e
  else
    let f := { e with testResult := some { clocked := e.isClocked, passed := true } }
    (if e.isClocked then s.reportPace e.station (Station.testReport · true) else s).endExchange f .complete

/-- An ACK is read for a frame the part sent (R10, R13, R23). -/
def State.takeAck (s : State) (e : Exchange) : State :=
  if s.bus.activity = .header then
    if s.bus.headerIndex < 2 then
      (s.setBus { s.bus with headerIndex := s.bus.headerIndex + 1 }).sendFrame .header
        (e.headerFrame (s.bus.headerIndex + 1))
    else
      (s.setExchange (some { e with phase := .answer })).setBus (s.bus.startTurnaround s.settings)
  else
    match e.kind with
    | .put => s.putByteSent e s.bus.frame.mark
    | .probe => s.testSent e
    | _ => s

/-- A NAK is read or given: the frame is resent or awaited again, or FRAME-ERROR is reported (R10, R11). -/
def State.takeNak (s : State) (e : Exchange) : State :=
  if s.bus.nakExceeds s.settings then s.failExchange e .frameError else s.setBus (s.bus.countNak s.settings)

end Sys2Proof.Machine
end

