-- ==== Sys2Proof/Machine/Registers.lean ====
section
/-! DEFINITION. The registers of the window (chapter 10): what each reads, what a DATA write does to each, and the DATA
access itself. -/

namespace Sys2Proof.Machine

/-! ### What each register reads (sections 10.3, 10.6) -/

/-- STATUS.PORTRDY (R151). -/
def State.portReady (s : State) : Bool :=
  let l := s.link s.port.link
  (l.popAllowed none && l.count != 0) || (l.pushAllowed none && l.space != 0)

/-- STATUS.STALL and SEQ.STALL: the sequencer is Idle and stalled (R92, R174). -/
def State.stalled (s : State) : Bool := s.seq.state == .idle && s.seq.stall

/-- The STATUS byte (R174, section 10.6.2). -/
def State.statusByte (s : State) : Byte :=
  byteOfBits s.window.cmdErr s.pins.askLine s.portReady s.stalled (s.seq.state == .idle) s.events.qroom
    (s.jobs.length == Config.jobLimit) (!s.events.held.isEmpty)

/-- A field of the head event, 0 when the queue is empty (R137). -/
def State.headField (s : State) (f : Event → Byte) : Byte :=
  match s.events.held with
  | [] => 0
  | e :: _ => f e

/-- What a read of window offset 3 returns: the byte of E-CLASS/CODE (R137, R169). No row of the table is this read; it
changes nothing (log 10). -/
def State.offset3Byte (s : State) : Byte := s.headField fun e => e.kind.byte

/-- S-ENTRY (section 10.6.4). -/
def Station.entryByte (e : Station) : Byte :=
  BitVec.ofNat 8 (64 * bitVal e.askPending + 32 * bitVal e.streak + 16 * bitVal e.demoted + 4 * e.capability.code
    + e.presence.code)

/-- L-STATE (section 10.6.4). -/
def Link.stateByte (l : Link) : Byte :=
  BitVec.ofNat 8 (16 * holderCode l.holder + 8 * bitVal l.messageOpen + l.state.code)

/-- L-END (section 10.6.4). -/
def Link.endByte (l : Link) : Byte :=
  BitVec.ofNat 8 (128 * bitVal (dirBit l.dir) + 16 * l.channel.toNat + l.station.val)

/-- A register of a mover channel as read: the high bytes read their holding copies (R156). -/
def State.readMoverReg (s : State) (c : Chan) (r : MoverReg) : Byte :=
  let ch := s.chan c
  match r with
  | .link => BitVec.ofNat 8 ch.link.val
  | .addrL => lowByte ch.addr
  | .addrH => ch.addrHold
  | .countL => lowByte ch.count
  | .countH => ch.countHold
  | .mode => BitVec.ofNat 8 (bitVal ch.mode)
  | .state => byteOfBits false false false false false (s.hasWork c) (dirBit ch.dir) ch.running

/-- What a register reads (section 10.3). -/
def State.readReg (s : State) : Reg → Byte
  | .cfg => byteOfBits false false false false false s.settings.step s.settings.scan s.settings.clocked
  | .intEn =>
    byteOfBits false false false false s.settings.intQroom s.settings.intMover s.settings.intAsk s.settings.intJob
  | .tAnswer => s.settings.tAnswer
  | .tFrame => s.settings.tFrame
  | .tTurn => s.settings.tTurn
  | .retry => BitVec.ofNat 8 (16 * s.settings.frameLimit.toNat + s.settings.busyLimit.toNat)
  | .busyDelay => s.settings.busyDelay
  | .rstPulse => BitVec.ofNat 8 s.settings.rstPulse.toNat
  | .clkRate => BitVec.ofNat 8 s.settings.clkRate.toNat
  | .jKind => s.settings.jKind
  | .jTag => s.settings.jTag
  | .jLink => s.settings.jLink
  | .jStation => s.settings.jStation
  | .jChan => BitVec.ofNat 8 s.settings.jChan.toNat
  | .jPages => s.settings.jPages
  | .jLimitL => s.settings.jLimitL
  | .jLimitH => BitVec.ofNat 8 s.settings.jLimitH.toNat
  | .eClassCode => s.offset3Byte
  | .eSource => s.headField (·.source)
  | .eResult => s.headField fun e => e.result.byte
  | .eCountL => s.headField fun e => lowByte e.count
  | .eCountH => s.headField fun e => highByte e.count
  | .eDetail => s.headField (·.detail)
  | .eFlags => s.headField (·.flags)
  | .eLevel => BitVec.ofNat 8 s.events.held.length
  | .seq => BitVec.ofNat 8 (128 * bitVal s.stalled + s.seq.state.code)
  | .qLevel => BitVec.ofNat 8 s.jobs.length
  | .qHeadTag => match s.jobs with
    | [] => 0
    | j :: _ => j.tag
  | .purged => BitVec.ofNat 8 s.window.purged
  | .refuse => match s.window.refuse with
    | none => 0
    | some r => BitVec.ofNat 8 r.code
  | .sSel => BitVec.ofNat 8 s.window.sSel.val
  | .sEntry => (s.station s.window.sSel).entryByte
  | .sStatusFlag => BitVec.ofNat 8 (bitVal (s.station s.window.sSel).lastStatus.isSome)
  | .sStatusByte => (s.station s.window.sSel).lastStatus.getD 0
  | .lSel => BitVec.ofNat 8 s.window.lSel.val
  | .lState => (s.link s.window.lSel).stateByte
  | .lEnd => (s.link s.window.lSel).endByte
  | .lPages => BitVec.ofNat 8 (s.link s.window.lSel).pages.length
  | .lCountL => BitVec.ofNat 8 (s.link s.window.lSel).count
  | .lCountH => s.window.countHold
  | .lMarks => BitVec.ofNat 8 (s.link s.window.lSel).marks
  | .lTotalL => lowByte (s.link s.window.lSel).total
  | .lTotalH => s.window.totalHold
  | .pool => BitVec.ofNat 8 s.freePages.length
  | .pLink => BitVec.ofNat 8 s.port.link.val
  | .pFlags => byteOfBits false false false false s.port.denied s.port.overrun s.port.underrun s.port.last
  | .mover c r => s.readMoverReg c r

/-! ### Read effects (R172) -/

/-- What reading a register changes: holding copies (R83, R156) and the sticky port flags (R148). -/
def State.readEffect (s : State) : Reg → State
  | .lCountL => s.setWindow { s.window with countHold := BitVec.ofNat 8 ((s.link s.window.lSel).count / 256) }
  | .lTotalL => s.setWindow { s.window with totalHold := highByte (s.link s.window.lSel).total }
  | .pFlags => s.setPort { s.port with underrun := false, overrun := false, denied := false }
  | .mover c .addrL => s.setChan c { s.chan c with addrHold := highByte (s.chan c).addr }
  | .mover c .countL => s.setChan c { s.chan c with countHold := highByte (s.chan c).count }
  | _ => s

/-! ### DATA writes (R172, R173, R176) -/

/-- What becomes of a DATA write. -/
inductive WriteFate where
  | stored (s : State)
  | refused (r : Reason)
  | ignored

/-- A written 0 is stored as 1 (R17, R18). -/
def atLeastOne {n : Nat} (v : BitVec n) : BitVec n := if v = 0 then 1 else v

/-- A write that stores into the settings. -/
def storeSetting (s : State) (g : Settings) : WriteFate := .stored (s.setSettings g)

/-- A write of CFG: the three fields are stored, a clear SCAN clears the ASK latch, a set SCAN applies R119, and the arbiter
of an Idle sequencer decides again (R119, R120, R90). -/
def State.writeCfg (s : State) (v : Byte) : State :=
  let s1 := s.setSettings { s.settings with clocked := v.getLsbD 0, scan := v.getLsbD 1, step := v.getLsbD 2 }
  (if v.getLsbD 1 then s1.judgeLatch else s1.setAttention { s1.attention with latch := false }).decide

/-- A write of a mover channel's register (R156, R173): the Running check comes first. -/
def State.writeMoverReg (s : State) (c : Chan) (r : MoverReg) (v : Byte) : WriteFate :=
  let ch := s.chan c
  if r = .state then .ignored
  else if ch.running then .refused .channelRunning
  else
    match r with
    | .link =>
      if h : v.toNat < Config.linkCount then .stored (s.setChan c { ch with link := ⟨v.toNat, h⟩ }) else .refused .badValue
    | .addrL => .stored (s.setChan c { ch with addr := withLowByte ch.addr v })
    | .addrH => .stored (s.setChan c { ch with addr := withHighByte ch.addr v })
    | .countL => .stored (s.setChan c { ch with count := withLowByte ch.count v })
    | .countH => .stored (s.setChan c { ch with count := withHighByte ch.count v })
    | .mode => .stored (s.setChan c { ch with mode := v.getLsbD 0 })
    | .state => .ignored

/-- A write of a register (section 10.3): stored, with the reductions of the owning rules, refused or ignored. -/
def State.writeReg (s : State) (r : Reg) (v : Byte) : WriteFate :=
  match r with
  | .cfg => .stored (s.writeCfg v)
  | .intEn => storeSetting s { s.settings with
      intJob := v.getLsbD 0, intAsk := v.getLsbD 1, intMover := v.getLsbD 2, intQroom := v.getLsbD 3 }
  | .tAnswer => storeSetting s { s.settings with tAnswer := atLeastOne v }
  | .tFrame => storeSetting (s.setBus (s.bus.frameUnitsWritten (atLeastOne v))) { s.settings with tFrame := atLeastOne v }
  | .tTurn => storeSetting s { s.settings with tTurn := atLeastOne v }
  | .retry => storeSetting s { s.settings with busyLimit := v.setWidth 4, frameLimit := (v >>> 4).setWidth 4 }
  | .busyDelay => storeSetting s { s.settings with busyDelay := v }
  | .rstPulse => storeSetting s { s.settings with rstPulse := atLeastOne (v.setWidth 4) }
  | .clkRate => storeSetting s { s.settings with clkRate := v.setWidth 2 }
  | .jKind => storeSetting s { s.settings with jKind := v }
  | .jTag => storeSetting s { s.settings with jTag := v }
  | .jLink => storeSetting s { s.settings with jLink := v }
  | .jStation => storeSetting s { s.settings with jStation := v }
  | .jChan => storeSetting s { s.settings with jChan := v.setWidth 4 }
  | .jPages => storeSetting s { s.settings with jPages := v }
  | .jLimitL => storeSetting s { s.settings with jLimitL := v }
  | .jLimitH => storeSetting s { s.settings with jLimitH := v.setWidth 4 }
  | .sSel =>
    if h : v.toNat < Config.stationCount then .stored (s.setWindow { s.window with sSel := ⟨v.toNat, h⟩ })
    else .refused .badValue
  | .lSel =>
    if h : v.toNat < Config.linkCount then .stored (s.setWindow { s.window with lSel := ⟨v.toNat, h⟩ })
    else .refused .badValue
  | .pLink =>
    if h : v.toNat < Config.linkCount then .stored (s.setPort { s.port with link := ⟨v.toNat, h⟩, last := false })
    else .refused .badValue
  | .mover c m => s.writeMoverReg c m v
  | _ => .ignored

/-! ### The DATA access (R171) -/

/-- After every DATA access INDEX rises by 1 and wraps, if CFG.STEP is set as the access left it (R171). -/
def State.autoStep (s : State) : State :=
  if s.settings.step then s.setWindow { s.window with index := s.window.index + 1 } else s

/-- A DATA write to the register INDEX selects (R171, R176). -/
def State.dataWrite (s : State) (v : Byte) : State :=
  let s1 :=
    match regOfIndex s.window.index with
    | none => s
    | some r =>
      match s.writeReg r v with
      | .stored t => t.taken
      | .refused e => s.refuse e
      | .ignored => s
  s1.autoStep

/-- A DATA read of the register INDEX selects; an unassigned index reads 0 (R171, R172). -/
def State.dataRead (s : State) : State :=
  let s1 :=
    match regOfIndex s.window.index with
    | none => s.readBack 0
    | some r => (s.readEffect r).readBack (s.readReg r)
  s1.autoStep

end Sys2Proof.Machine
end

