-- ==== Sys2Proof/Machine/CommandOps.lean ====
section
/-! DEFINITION. What the port accesses, the immediate commands and the resets do, as functions of the state (chapters 5 to
10). The family files turn each into the meaning of its row. -/

namespace Sys2Proof.Machine

/-! ### The buffer port (chapter 8) -/

/-- A PORT read (R145, R146): a pop claim on the selected link. -/
def State.portRead (s : State) : State :=
  match (s.link s.port.link).pop none with
  | .handed c l => ((s.setLink s.port.link l).setPort { s.port with last := c.marked }).readBack c.byte
  | .empty => (s.setPort { s.port with underrun := true }).readBack 0
  | .denied => (s.setPort { s.port with denied := true }).readBack 0

/-- A PORT write (R147): a push claim on the selected link. -/
def State.portWrite (s : State) (v : Byte) : State :=
  match (s.link s.port.link).push none v false with
  | .appended l => s.setLink s.port.link l
  | .noSpace => s.setPort { s.port with overrun := true }
  | .denied => s.setPort { s.port with denied := true }

/-- PORT-MARK (R149). -/
def State.portMark (s : State) : State :=
  match (s.link s.port.link).mark with
  | .placed l => (s.setLink s.port.link l).taken
  | .refused r => s.refuse r

/-- PORT-SKIP (R150). -/
def State.portSkip (s : State) : State :=
  match (s.link s.port.link).skip with
  | some l => ((s.setLink s.port.link l).setPort { s.port with last := false }).taken
  | none => s.refuse .portDenied

/-! ### The job queue (chapter 5) -/

/-- The staged limit: 256 times J-LIMIT-H plus J-LIMIT-L (R84). -/
def Settings.stagedLimit (g : Settings) : BitVec 12 := BitVec.ofNat 12 (256 * g.jLimitH.toNat + g.jLimitL.toNat)

/-- The record POST fills from the staging registers (R84). -/
def Settings.stagedJob (g : Settings) (k : JobKind) : Job :=
  { kind := k, tag := g.jTag, link := g.jLink, station := g.jStation, channel := g.jChan.setWidth 3,
    dir := dirOfBit (g.jChan.getLsbD 3), pages := g.jPages, limit := g.stagedLimit }

/-- The range of a link field, 0 to 11 (R84). -/
def Job.linkOk (j : Job) : Bool := decide (j.link.toNat < Config.linkCount)

/-- The range of a station field, 0 to 13 (R84). -/
def Job.stationOk (j : Job) : Bool := decide (j.station.toNat < Config.stationCount)

/-- The range of a pages field, 1 to 8 (R84). -/
def Job.pagesOk (j : Job) : Bool := decide (1 ≤ j.pages.toNat) && decide (j.pages.toNat ≤ 8)

/-- The range of a limit field, 1 to 4095 (R84). -/
def Job.limitOk (j : Job) : Bool := j.limit != 0

/-- The checks of POST on the fields the kind uses (R84, R85). A channel is in range in its three bits. -/
def Job.valid (j : Job) : Bool :=
  match j.kind with
  | .openLink => j.linkOk && j.stationOk && j.pagesOk
  | .shut => j.linkOk
  | .put => j.linkOk && j.limitOk
  | .take => j.linkOk && j.limitOk
  | .status => j.stationOk
  | .probe => j.stationOk
  | .census => true
  | .busReset => true

/-- The staged job, when it passes POST's checks (R85). -/
def Settings.postedJob (g : Settings) : Option Job :=
  match jobKindOfCode g.jKind with
  | none => none
  | some k => if (g.stagedJob k).valid then some (g.stagedJob k) else none

/-- POST (R85): BAD-JOB, QUEUE-FULL, or a Queued job at the tail, after which an Idle arbiter decides. -/
def State.postJob (s : State) : State :=
  match s.settings.postedJob with
  | none => s.refuse .badJob
  | some j => if Config.jobLimit ≤ s.jobs.length then s.refuse .queueFull else (s.setJobs (s.jobs ++ [j])).taken.decide

/-- The records PURGE keeps: the Active job alone, if there is one (R88). -/
def State.keptJobs (s : State) : List Job := if s.active.isSome then s.jobs.take 1 else []

/-- PURGE (R88). -/
def State.purgeJobs (s : State) : State :=
  let kept := s.keptJobs
  let s1 := (s.setQroomOnFall s.jobs.length kept.length).setJobs kept
  (s1.setWindow { s1.window with purged := s.jobs.length - kept.length }).taken.decide

/-- The Active job ends ABORTED at once, with no CUT (R111, R113). -/
def State.abortNow (s : State) : State :=
  match s.activeJob with
  | some (j, _) => s.endJob .aborted (j.kind.cleanup false)
  | none => s.setSeqState .idle

/-- ABORT (R111): by the sequencer's state. -/
def State.abortJob (s : State) : State :=
  match s.seq.state with
  | .idle => s.refuse .nothingToAbort
  | .cutting => s.refuse .alreadyEnding
  | .scanning => s.refuse .notAbortable
  | .resetting => s.refuse .notAbortable
  | .holding => s.taken.abortNow.decide
  | .running =>
    match s.exchange with
    | some e => (s.taken.cutExchange e).setSeqState .cutting
    | none => s.taken.abortNow.decide

/-! ### The event queue and the attention unit -/

/-- POP (R136): the head event is discarded, and an Idle arbiter decides on the freed slot. -/
def State.popEvent (s : State) : State :=
  match s.events.held with
  | [] => s.refuse .eventsEmpty
  | _ :: rest => (s.setEvents { s.events with held := rest }).taken.decide

/-- ASK-REARM (R122): the mask is cleared unless the unit is scanning, and R119 is applied. -/
def State.askRearm (s : State) : State :=
  if s.attention.scan.isSome then s.taken
  else ((s.setAttention { s.attention with mask := false }).judgeLatch).taken.decide

/-! ### The mover's commands -/

/-- MOVER-START (R157): a refusal, or the run begins and the first byte move with it if BGNT is given (log 13). -/
def State.moverStart (s : State) (c : Chan) : State :=
  match s.startRefusal c with
  | some r => s.refuse r
  | none => (s.startRun c).nextMove.taken

/-- MOVER-STOP (R166). -/
def State.moverStop (s : State) (c : Chan) : State :=
  if (s.chan c).running then (s.stopChannel c .command).taken else s.refuse .channelIdle

/-! ### Resets -/

/-- What a pulse completion, full or shortened, does to the tables and the attention unit (R54, R68, R120, R121). -/
def State.resetByPulse (s : State) : State :=
  ((s.setStations (Vector.replicate Config.stationCount Station.reset)).loseLinks).clearAttention

/-- The soft reset of every block but the bus unit and the sequencer's state (R53, R69, R116, R130, R141, R154, R168). -/
def State.softResetBlocks (s : State) : State :=
  let s1 := s.abandonMove
  let s2 := (s1.setMover s1.mover.softReset).closeAllLinks
  let s3 := (s2.setEvents { held := [], reserved := [], qroom := false }).setPort
    { s2.port with last := false, underrun := false, overrun := false, denied := false }
  let s4 := ((s3.setJobs []).setActive none).setStations (mapTable Station.softReset s3.stations)
  let s5 := s4.setSeq { s4.seq with jobTurn := false, stall := false }
  (s5.setAttention { s5.attention with scan := none }).clearAttention

/-- The bus unit's side of SOFT-RESET (R19): a CUT for an activity in progress, and a shortened pulse completion for a
pulse (R17, R53, R116). -/
def State.softResetBus (s : State) : State :=
  match s.bus.activity with
  | .free => s
  | .pulsing => s.busToFree.resetByPulse
  | _ => s.startCut

/-- The state the sequencer takes at SOFT-RESET (R116). -/
def State.softResetSeq (s : State) : SeqState :=
  match s.seq.state with
  | .cutting => .cutting
  | .running => if s.exchange.isSome then .cutting else .idle
  | .scanning => if s.exchange.isSome then .cutting else .idle
  | _ => .idle

/-- SOFT-RESET (R175): each block's soft reset at one event; an Idle arbiter then decides. -/
def State.softReset (s : State) : State :=
  ((((s.softResetBlocks).setExchange (s.exchange.map Exchange.cut)).softResetBus).setSeqState s.softResetSeq).taken.decide

/-- The reset pin (R19, R42, R44, R59, R62, R117, R118, R142, R143, R155, R168, R170, R176): every block at its pin reset
value. The input levels and the model's own fields stay (log 3). -/
def State.pinReset (s : State) : State :=
  { State.reset with
    pins := { Pins.reset with askLine := s.pins.askLine, bgnt := s.pins.bgnt }
    freeTick := s.freeTick
    pending := s.pending }

/-! ### The codes of offset 3 (R175) -/

/-- A write of window offset 3: the command whose code the byte is, or UNKNOWN-COMMAND (R175). -/
def State.commandWrite (s : State) (v : Byte) : State :=
  match v.toNat with
  | 0x01 => s.postJob
  | 0x02 => s.popEvent
  | 0x03 => s.abortJob
  | 0x04 => s.purgeJobs
  | 0x05 => s.askRearm
  | 0x06 => s.portMark
  | 0x07 => s.portSkip
  | 0x08 => s.moverStart .a
  | 0x09 => s.moverStart .b
  | 0x0A => s.moverStop .a
  | 0x0B => s.moverStop .b
  | 0x1F => s.softReset
  | _ => s.refuse .unknownCommand

end Sys2Proof.Machine
end

