-- ==== Sys2Proof/Machine/ImmediateCommands.lean ====
section
/-! DEFINITION. The meanings of the immediate commands, the writes of window offset 3 (R175). -/

namespace Sys2Proof.Machine

/-- POST (R85). -/
def execPost (s : State) : Host.Outcome State Fault Refusal :=
  onWindow (fun t => t.postJob) s

/-- POP (R136). -/
def execPop (s : State) : Host.Outcome State Fault Refusal :=
  onWindow (fun t => t.popEvent) s

/-- ABORT (R111). -/
def execAbort (s : State) : Host.Outcome State Fault Refusal :=
  onWindow (fun t => t.abortJob) s

/-- PURGE (R88). -/
def execPurge (s : State) : Host.Outcome State Fault Refusal :=
  onWindow (fun t => t.purgeJobs) s

/-- ASK_REARM (R122). -/
def execAskRearm (s : State) : Host.Outcome State Fault Refusal :=
  onWindow (fun t => t.askRearm) s

/-- PORT_MARK (R149). -/
def execPortMark (s : State) : Host.Outcome State Fault Refusal :=
  onWindow (fun t => t.portMark) s

/-- PORT_SKIP (R150). -/
def execPortSkip (s : State) : Host.Outcome State Fault Refusal :=
  onWindow (fun t => t.portSkip) s

/-- MOVER_START (R157). -/
def execMoverStart (c : Chan) (s : State) : Host.Outcome State Fault Refusal :=
  onWindow (fun t => t.moverStart c) s

/-- MOVER_STOP (R166). -/
def execMoverStop (c : Chan) (s : State) : Host.Outcome State Fault Refusal :=
  onWindow (fun t => t.moverStop c) s

/-- SOFT_RESET (R175). -/
def execSoftReset (s : State) : Host.Outcome State Fault Refusal :=
  onWindow (fun t => t.softReset) s

/-- UNKNOWN_COMMAND (R175): a byte that is no command code is refused; a byte that is one is that command. -/
def execUnknownCommand (v : Byte) (s : State) : Host.Outcome State Fault Refusal :=
  onWindow (fun t => t.commandWrite v) s

end Sys2Proof.Machine
end

