-- ==== Sys2Proof/Machine/Lines.lean ====
section
/-! DEFINITION. The meanings of the events on the part's pins: the reset pin, ASK, BGNT, and the end of a byte move on the
host bus. -/

namespace Sys2Proof.Machine

/-- PIN_RESET (R19). -/
def execPinReset (s : State) : Host.Outcome State Fault Refusal :=
  .next s.pinReset

/-- The ASK line changes from released to asserted: R119 is applied and an Idle arbiter decides (R90, R119). -/
def State.askAsserted (s : State) : State :=
  if s.pins.askLine then s else ((s.setPins { s.pins with askLine := true }).judgeLatch).decide

/-- ASK_LINE_ASSERTED (R119): no change when the line is asserted already. -/
def execAskLineAsserted (s : State) : Host.Outcome State Fault Refusal :=
  .next s.askAsserted

/-- The ASK line is seen released: the mask is cleared and an Idle arbiter decides (R90, R121). -/
def State.askReleased (s : State) : State :=
  ((s.setPins { s.pins with askLine := false }).setAttention { s.attention with mask := false }).decide

/-- ASK_LINE_RELEASED (R121). -/
def execAskLineReleased (s : State) : Host.Outcome State Fault Refusal :=
  .next s.askReleased

/-- BGNT_GIVEN (R161): the grant begins, and a byte move with it when a channel has work (R160). -/
def execBgntGiven (s : State) : Host.Outcome State Fault Refusal :=
  .next (s.setPins { s.pins with bgnt := true }).nextMove

/-- BGNT_WITHDRAWN (R162): a move in progress runs on, and no further move begins. -/
def execBgntWithdrawn (s : State) : Host.Outcome State Fault Refusal :=
  .next (s.setPins { s.pins with bgnt := false })

/-- The move in progress completes; with none in progress nothing happens (R160, log 4). -/
def State.moveCompletion (s : State) (hostByte : Byte) : State :=
  match s.mover.move with
  | some m => s.completeMove m hostByte
  | none => s

/-- BYTE_MOVE_COMPLETION (R160). -/
def execByteMoveCompletion (hostByte : Byte) (s : State) : Host.Outcome State Fault Refusal :=
  .next (s.moveCompletion hostByte)

end Sys2Proof.Machine
end

