-- ==== Sys2Proof/Machine/WindowAccess.lean ====
section
/-! DEFINITION. The meanings of the window accesses at offsets 0, 1 and 2 (R169 to R174, chapter 8). A DATA access acts on
the register INDEX selects, whatever row names it (R171, log 2). -/

namespace Sys2Proof.Machine

/-- INDEX_WRITE (R170): the low six bits are stored; CMDERR and REFUSE stay. -/
def execIndexWrite (v : Byte) (s : State) : Host.Outcome State Fault Refusal :=
  onWindow (fun t => t.setWindow { t.window with index := v.setWidth 6 }) s

/-- STATUS_READ (R174): the STATUS byte is returned and the QROOM latch cleared (R138). -/
def execStatusRead (s : State) : Host.Outcome State Fault Refusal :=
  onWindow (fun t => (t.setEvents { t.events with qroom := false }).readBack t.statusByte) s

/-- CFG_WRITE (R119): the DATA write while INDEX selects CFG. -/
def execCfgWrite (v : Byte) (s : State) : Host.Outcome State Fault Refusal :=
  onWindow (fun t => t.dataWrite v) s

/-- INT_EN_WRITE (R139): the DATA write while INDEX selects INT-EN. -/
def execIntEnWrite (v : Byte) (s : State) : Host.Outcome State Fault Refusal :=
  onWindow (fun t => t.dataWrite v) s

/-- S_SEL_WRITE (R56): the DATA write while INDEX selects S-SEL. -/
def execSSelWrite (v : Byte) (s : State) : Host.Outcome State Fault Refusal :=
  onWindow (fun t => t.dataWrite v) s

/-- L_SEL_WRITE (R82): the DATA write while INDEX selects L-SEL. -/
def execLSelWrite (v : Byte) (s : State) : Host.Outcome State Fault Refusal :=
  onWindow (fun t => t.dataWrite v) s

/-- P_LINK_WRITE (R144): the DATA write while INDEX selects P-LINK. -/
def execPLinkWrite (v : Byte) (s : State) : Host.Outcome State Fault Refusal :=
  onWindow (fun t => t.dataWrite v) s

/-- MA_LINK_WRITE (R156): the DATA write while INDEX selects MA-LINK or MB-LINK. -/
def execMaLinkWrite (v : Byte) (s : State) : Host.Outcome State Fault Refusal :=
  onWindow (fun t => t.dataWrite v) s

/-- REGISTER_WRITE (R172): the DATA write while INDEX selects any other register, or none. -/
def execRegisterWrite (v : Byte) (s : State) : Host.Outcome State Fault Refusal :=
  onWindow (fun t => t.dataWrite v) s

/-- L_COUNT_L_READ (R83): the DATA read while INDEX selects L-COUNT-L. -/
def execLCountLRead (s : State) : Host.Outcome State Fault Refusal :=
  onWindow (fun t => t.dataRead) s

/-- L_TOTAL_L_READ (R83): the DATA read while INDEX selects L-TOTAL-L. -/
def execLTotalLRead (s : State) : Host.Outcome State Fault Refusal :=
  onWindow (fun t => t.dataRead) s

/-- MA_ADDR_L_READ (R156): the DATA read while INDEX selects MA-ADDR-L or MB-ADDR-L. -/
def execMaAddrLRead (s : State) : Host.Outcome State Fault Refusal :=
  onWindow (fun t => t.dataRead) s

/-- MA_COUNT_L_READ (R156): the DATA read while INDEX selects MA-COUNT-L or MB-COUNT-L. -/
def execMaCountLRead (s : State) : Host.Outcome State Fault Refusal :=
  onWindow (fun t => t.dataRead) s

/-- P_FLAGS_READ (R148): the DATA read while INDEX selects P-FLAGS. -/
def execPFlagsRead (s : State) : Host.Outcome State Fault Refusal :=
  onWindow (fun t => t.dataRead) s

/-- PORT_READ (R145): a read of offset 2. -/
def execPortRead (s : State) : Host.Outcome State Fault Refusal :=
  onWindow (fun t => t.portRead) s

/-- PORT_WRITE (R147): a write of offset 2. -/
def execPortWrite (v : Byte) (s : State) : Host.Outcome State Fault Refusal :=
  onWindow (fun t => t.portWrite v) s

/-- DATA_READ (R171): a read of offset 1. -/
def execDataRead (s : State) : Host.Outcome State Fault Refusal :=
  onWindow (fun t => t.dataRead) s

end Sys2Proof.Machine
end

