-- ==== Sys2Proof/Machine/WireEvents.lean ====
section
/-! DEFINITION. The meanings of what happens on the station bus and of the part's own expiries (chapters 1, 2, 5, 6). An
event that reaches a bus unit or sequencer not waiting for it changes nothing (log 4); the arbiter decides at an event at
which the sequencer enters Idle (R90). -/

namespace Sys2Proof.Machine

/-- Runs a report on the exchange in progress when the bus unit is in an activity that gives it. -/
def State.onReport (s : State) (when_ : Bool) (f : Exchange → State) : State :=
  match s.exchange with
  | some e => if when_ then State.settle s (f e) else s
  | none => s

/-- Clearing ends and the header's first frame is sent (R13, R15). -/
def State.linesReleased (s : State) : State :=
  s.onReport (s.bus.activity == .clearing) fun e =>
    (s.setBus { s.bus with headerIndex := 0 }).sendFrame .header (e.headerFrame 0)

/-- LINES_RELEASED (R15). -/
def execLinesReleased (s : State) : Host.Outcome State Fault Refusal :=
  .next s.linesReleased

/-- An ACK read in Header or Sending; a byte removed from an OUT ring may give a mover channel work (R9, R158). -/
def State.ackRead (s : State) : State :=
  s.onReport (s.bus.activity == .header || s.bus.activity == .sending) fun e => (s.takeAck e).nextMove

/-- ACK_READ (R9). -/
def execAckRead (s : State) : Host.Outcome State Fault Refusal :=
  .next s.ackRead

/-- NAK_READ (R10): a NAK read in Header or Sending. -/
def execNakRead (s : State) : Host.Outcome State Fault Refusal :=
  .next (s.onReport (s.bus.activity == .header || s.bus.activity == .sending) fun e => s.takeNak e)

/-- ANSWER_RECEIVED (R25): the answer frame is taken in Turnaround. Its mark bit is not examined (R178). -/
def execAnswerReceived (data : Byte) (_mark : Bool) (s : State) : Host.Outcome State Fault Refusal :=
  .next (s.onReport (s.bus.activity == .turnaround) fun e => s.takeAnswer e (answerOfByte data))

/-- A frame taken in Receiving: a status frame or a TAKE data frame (R31, R32). -/
def State.takeFrame (s : State) (e : Exchange) (data : Byte) (mark : Bool) : State :=
  match e.kind with
  | .status => s.takeStatus e data
  | .take => (s.takeData e data mark).nextMove
  | _ => s

/-- FRAME_RECEIVED (R11). -/
def execFrameReceived (data : Byte) (mark : Bool) (s : State) : Host.Outcome State Fault Refusal :=
  .next (s.onReport (s.bus.activity == .receiving) fun e => s.takeFrame e data mark)

/-- NAK_GIVEN (R11): a NAK given in Turnaround or Receiving. -/
def execNakGiven (s : State) : Host.Outcome State Fault Refusal :=
  .next (s.onReport (s.bus.activity == .turnaround || s.bus.activity == .receiving) fun e => s.takeNak e)

/-- HANDBACK (R14). -/
def execHandback (s : State) : Host.Outcome State Fault Refusal :=
  .next (s.onReport (s.bus.activity == .handback) fun e => s.takeHandback e)

/-- STB_EDGE_IN_HANDBACK (R14): TURN-ERROR in an exchange whose pace is Clocked; in any other STB is not watched. -/
def execStbEdgeInHandback (s : State) : Host.Outcome State Fault Refusal :=
  .next (s.onReport (s.bus.activity == .handback) fun e => if e.isClocked then s.failExchange e .turnError else s)

/-- ANSWER_TIMEOUT (R13, R24): the answer timer expires, NO-STATION, with no CUT. -/
def execAnswerTimeout (s : State) : Host.Outcome State Fault Refusal :=
  .next (s.onReport (s.bus.activity == .turnaround && s.bus.timing .answer) fun e =>
    (s.reportStation e.station Station.answerTimeout).endExchange e .noStation)

/-- FRAME_TIMEOUT (R18): the frame timer expires. -/
def execFrameTimeout (s : State) : Host.Outcome State Fault Refusal :=
  .next (s.onReport (s.bus.timing .frame) fun e => s.failExchange e .frameTimeout)

/-- TURN_ERROR (R14, R15): the turn timer expires. -/
def execTurnError (s : State) : Host.Outcome State Fault Refusal :=
  .next (s.onReport (s.bus.timing .turn) fun e => s.failExchange e .turnError)

/-- The CUT hold ends (R16): the exchange it ends is taken up, if there is one. -/
def State.cutCompletion (s : State) : State :=
  if s.bus.activity = .cutting then
    match s.exchange with
    | some e => State.settle s (s.endCut e)
    | none => State.settle s ((s.busToFree).setSeqState .idle)
  else s

/-- CUT_COMPLETION (R16). -/
def execCutCompletion (s : State) : Host.Outcome State Fault Refusal :=
  .next s.cutCompletion

/-- The pulse ends: the tables and the attention unit are reset, and the BUSRESET job ends DONE (R17, R110). -/
def State.pulseCompletion (s : State) : State :=
  if s.bus.activity = .pulsing then
    State.settle s ((s.busToFree.resetByPulse).endJobSince s.events.held.length .done .keep)
  else s

/-- PULSE_COMPLETION (R17). -/
def execPulseCompletion (s : State) : Host.Outcome State Fault Refusal :=
  .next s.pulseCompletion

/-- The busy delay ends: the sequencer re-enters Running and the repeat exchange begins (R96). -/
def State.busyDelayEnd (s : State) : State :=
  if s.seq.state = .holding then State.settle s ((s.setSeqState .running).startExchange false) else s

/-- BUSY_DELAY_END (R96). -/
def execBusyDelayEnd (s : State) : Host.Outcome State Fault Refusal :=
  .next s.busyDelayEnd

/-- The kinds that may run several exchanges (R98). -/
def JobKind.severalExchanges : JobKind → Bool
  | .put => true
  | .take => true
  | .census => true
  | _ => false

/-- The Active job is of a kind that may run several exchanges (R98). -/
def State.betweenExchanges (s : State) : Bool :=
  match s.activeJob with
  | some (j, _) => j.kind.severalExchanges
  | none => false

/-- With no exchange in progress, the next exchange of a job or the next visit of a scan begins (R98, R125). -/
def State.nextStep (s : State) : State :=
  match s.seq.state, s.exchange with
  | .running, none => if s.betweenExchanges then State.settle s (s.startExchange true) else s
  | .scanning, none => State.settle s s.nextVisit
  | _, _ => s

/-- NEXT_STEP (R98). -/
def execNextStep (s : State) : Host.Outcome State Fault Refusal :=
  .next s.nextStep

/-- A slot of a frame the part sent shows no pattern: another is clocked under the frame timer already running, and the
frame's bits are known to have gone out (R7, R9). -/
def State.noPattern (s : State) : State :=
  if s.bus.activity = .header ∨ s.bus.activity = .sending then s.setBus s.bus.repeatSlot else s

/-- NO_PATTERN (R9). -/
def execNoPattern (s : State) : Host.Outcome State Fault Refusal :=
  .next s.noPattern

/-- The tenth bit of the answer frame is taken: the answer timer stops and the frame timer bounds the slot (R13, R18). -/
def State.answerTenthBit (s : State) : State :=
  if s.bus.activity = .turnaround then s.setBus { s.bus with timer := some (s.settings.wait .frame) } else s

/-- ANSWER_TENTH_BIT (R13). -/
def execAnswerTenthBit (s : State) : Host.Outcome State Fault Refusal :=
  .next s.answerTenthBit

end Sys2Proof.Machine
end

