-- ==== Sys2Proof/Machine/Dispatch.lean ====
section
/-! DEFINITION. One arm for each command: a direct call of its meaning. -/

namespace Sys2Proof.Machine

def exec (i : Instr) (s : State) : Host.Outcome State Fault Refusal :=
  match i with
  | .indexWrite v => Sys2Proof.Machine.execIndexWrite v s
  | .statusRead => Sys2Proof.Machine.execStatusRead s
  | .cfgWrite v => Sys2Proof.Machine.execCfgWrite v s
  | .intEnWrite v => Sys2Proof.Machine.execIntEnWrite v s
  | .sSelWrite v => Sys2Proof.Machine.execSSelWrite v s
  | .lSelWrite v => Sys2Proof.Machine.execLSelWrite v s
  | .pLinkWrite v => Sys2Proof.Machine.execPLinkWrite v s
  | .maLinkWrite v => Sys2Proof.Machine.execMaLinkWrite v s
  | .registerWrite v => Sys2Proof.Machine.execRegisterWrite v s
  | .lCountLRead => Sys2Proof.Machine.execLCountLRead s
  | .lTotalLRead => Sys2Proof.Machine.execLTotalLRead s
  | .maAddrLRead => Sys2Proof.Machine.execMaAddrLRead s
  | .maCountLRead => Sys2Proof.Machine.execMaCountLRead s
  | .pFlagsRead => Sys2Proof.Machine.execPFlagsRead s
  | .portRead => Sys2Proof.Machine.execPortRead s
  | .portWrite v => Sys2Proof.Machine.execPortWrite v s
  | .post => Sys2Proof.Machine.execPost s
  | .pop => Sys2Proof.Machine.execPop s
  | .abort => Sys2Proof.Machine.execAbort s
  | .purge => Sys2Proof.Machine.execPurge s
  | .askRearm => Sys2Proof.Machine.execAskRearm s
  | .portMark => Sys2Proof.Machine.execPortMark s
  | .portSkip => Sys2Proof.Machine.execPortSkip s
  | .moverStart c => Sys2Proof.Machine.execMoverStart c s
  | .moverStop c => Sys2Proof.Machine.execMoverStop c s
  | .softReset => Sys2Proof.Machine.execSoftReset s
  | .unknownCommand v => Sys2Proof.Machine.execUnknownCommand v s
  | .pinReset => Sys2Proof.Machine.execPinReset s
  | .askLineAsserted => Sys2Proof.Machine.execAskLineAsserted s
  | .askLineReleased => Sys2Proof.Machine.execAskLineReleased s
  | .bgntGiven => Sys2Proof.Machine.execBgntGiven s
  | .bgntWithdrawn => Sys2Proof.Machine.execBgntWithdrawn s
  | .byteMoveCompletion hostByte => Sys2Proof.Machine.execByteMoveCompletion hostByte s
  | .linesReleased => Sys2Proof.Machine.execLinesReleased s
  | .ackRead => Sys2Proof.Machine.execAckRead s
  | .nakRead => Sys2Proof.Machine.execNakRead s
  | .answerReceived data mark => Sys2Proof.Machine.execAnswerReceived data mark s
  | .frameReceived data mark => Sys2Proof.Machine.execFrameReceived data mark s
  | .nakGiven => Sys2Proof.Machine.execNakGiven s
  | .handback => Sys2Proof.Machine.execHandback s
  | .stbEdgeInHandback => Sys2Proof.Machine.execStbEdgeInHandback s
  | .answerTimeout => Sys2Proof.Machine.execAnswerTimeout s
  | .frameTimeout => Sys2Proof.Machine.execFrameTimeout s
  | .turnError => Sys2Proof.Machine.execTurnError s
  | .cutCompletion => Sys2Proof.Machine.execCutCompletion s
  | .pulseCompletion => Sys2Proof.Machine.execPulseCompletion s
  | .busyDelayEnd => Sys2Proof.Machine.execBusyDelayEnd s
  | .nextStep => Sys2Proof.Machine.execNextStep s
  | .noPattern => Sys2Proof.Machine.execNoPattern s
  | .answerTenthBit => Sys2Proof.Machine.execAnswerTenthBit s
  | .dataRead => Sys2Proof.Machine.execDataRead s

end Sys2Proof.Machine
end

