-- ==== Sys2Proof/Machine/Signals.lean ====
section
/-! DEFINITION. What the part shows on its lines, as functions of the state (section 1.6, R1), the lengths of its waits
(R6, R17, R18, R96), how the wire's ten bits and slot samples become commands (R3, R8), and what the part asserts on CK and
DT within a frame (R1, R4). -/

namespace Sys2Proof.Machine

/-! ### The interrupt line (R140) -/

/-- The class of an event is enabled in INT-EN (R139). -/
def Settings.enables (g : Settings) : EventKind → Bool
  | .job _ => g.intJob
  | .claimed => g.intAsk
  | .unclaimed => g.intAsk
  | .moverDone => g.intMover
  | .moverStopped => g.intMover

/-- INT is asserted: an enabled event is held in any position, or the QROOM latch is set and enabled (R140). -/
def State.intLine (s : State) : Bool :=
  (s.events.held.any fun e => s.settings.enables e.kind) || (s.events.qroom && s.settings.intQroom)

/-! ### The host bus (R159) -/

/-- BREQ is asserted: a Running channel has work, or a byte move is in progress (R159). -/
def State.breqLine (s : State) : Bool := s.hasWork .a || s.hasWork .b || s.mover.move.isSome

/-- The host address the part drives, while BGNT is given and a byte move is in progress (R159). DESIGN CHOICE: between a
withdrawal and the completion of the move in progress R162 leaves the lines driven where R159 has them released, and the
model releases them at the withdrawal (log 29). -/
def State.hostAddress (s : State) : Option Word16 :=
  if s.pins.bgnt then s.mover.move.map fun m => (s.chan m.chan).addr else none

/-- The byte the part drives on the host data bus for a mover write, while BGNT is given (R159, R160). DESIGN CHOICE: it is
released at a withdrawal, as the address is (log 29). -/
def State.hostData (s : State) : Option Byte :=
  if s.pins.bgnt then s.mover.move.bind fun m => m.popped.map (·.byte) else none

/-! ### Station-bus lines (R1, R13, R16, R17) -/

/-- SEL is asserted through a header and through a CUT hold (R13, R16). -/
def State.selLine (s : State) : Bool := s.bus.activity == .header || s.bus.activity == .cutting

/-- BRST is asserted through a pulse (R17). -/
def State.brstLine (s : State) : Bool := s.bus.activity == .pulsing

/-- The K460 holds the clock in every state but Turnaround, Receiving and Handback (section 1.2). -/
def State.holdsClock (s : State) : Bool :=
  s.bus.activity != .turnaround && s.bus.activity != .receiving && s.bus.activity != .handback

/-- The ten bits of the frame the part is sending, in Header and Sending (R3). -/
def State.sentBits (s : State) : Option (BitVec 10) :=
  if s.bus.activity = .header ∨ s.bus.activity = .sending then some s.bus.frame.bits else none

/-! ### Lengths (R6, R16, R17, R18, R96) -/

/-- The lengths the run of a wire timer in hand can have, in microseconds (R18, log 6). -/
def Wait.micros (w : Wait) : List Nat := w.unitsRead.map fun u => Config.wireUnitMicros * u.toNat

/-- The bit period of a CLK-RATE code, in microseconds (R6): 16, 8, 4, 2. -/
def bitPeriod (rate : BitVec 2) : Nat := 16 / 2 ^ rate.toNat

/-! ### STB and DT in a Clocked frame (R1, R7) -/

/-- The rate of the Clocked frame the part is sending, unless a row has shown its slot to be running (R6, R7, R9). -/
def State.clockedFrame (s : State) : Option (BitVec 2) :=
  match s.bus.activity, s.exchange with
  | .sending, some e =>
    match e.pace, s.bus.timer.map (·.slot) with
    | some (.clocked r), some false => some r
    | _, _ => none
  | _, _ => none

/-- The bit in hand `t` microseconds after the frame's first bit period began, and the time into its period: ten periods,
and none after them, when the slot follows on CK (R7). -/
def State.clockedBit (s : State) (t : Nat) : Option (BitVec 2 × Nat × Nat) :=
  s.clockedFrame.bind fun r =>
    if t < 10 * bitPeriod r then some (r, t / bitPeriod r, t % bitPeriod r) else none

/-- The level the part drives on STB at that time: low for the first half of each bit period and high for the second. None
is released: after the tenth bit, in every slot, header, CUT and pulse, and whenever the part is not the Clocked sender (R1,
R7). -/
def State.stbLevel (s : State) (t : Nat) : Option Bool :=
  (s.clockedBit t).map fun (r, _, u) => Decidable.decide (bitPeriod r ≤ 2 * u)

/-- DT asserted by the part as the Clocked sender at that time: the bit whose period it is, set at the period's start (R1,
R7). -/
def State.clockedDt (s : State) (t : Nat) : Option Bool :=
  (s.clockedBit t).map fun (_, k, _) => s.bus.frame.bits.getLsbD k

/-- The length of the pulse in progress, in microseconds (R17). -/
def State.pulseMicros (s : State) : Option Nat :=
  if s.bus.activity = .pulsing then some (1000 * s.bus.pulseMs.toNat) else none

/-- The length of the Holding in progress, in microseconds (R96). -/
def State.holdMicros (s : State) : Option Nat :=
  if s.seq.state = .holding then some (1000 * s.seq.holdMs.toNat) else none

/-- The hold of the CUT in progress, in microseconds (R16). -/
def State.cutHoldMicros (s : State) : Option Nat :=
  if s.bus.activity = .cutting then some Config.cutMicros else none

/-! ### From the wire to commands (R3, R8, R11) -/

/-- How the two samples of a slot are read by the frame's sender (R8). -/
inductive SlotReading where
  | ack | nak | noPattern
deriving DecidableEq, Repr

/-- The table of R8; an asserted sample is `true`. -/
def readSlot : Bool → Bool → SlotReading
  | true, false => .ack
  | false, true => .nak
  | true, true => .nak
  | false, false => .noPattern

/-- The command a slot of a frame the part sent gives (R9, R10). -/
def slotCommand (first second : Bool) : Instr :=
  match readSlot first second with
  | .ack => .ackRead
  | .nak => .nakRead
  | .noPattern => .noPattern

/-- The samples the part gives as the receiver of a frame: driven then released for good parity (R11). -/
def givenSlot (b : BitVec 10) : Bool × Bool := if goodParity b then (true, false) else (false, true)

/-- The command the ten bits of a station's frame give, the answer frame in Turnaround and any other in Receiving (R3,
R11). -/
def frameCommand (answer : Bool) (b : BitVec 10) : Instr :=
  if goodParity b then
    if answer then .answerReceived (frameOfBits b).data (frameOfBits b).mark
    else .frameReceived (frameOfBits b).data (frameOfBits b).mark
  else .nakGiven

/-! ### CK and DT (R1, R4, R8, R9, R11) -/

/-- What is on the wire at the moment the part's lines are asked for. The rows stand for whole frames and slots (log 17), so a
moment inside one is an argument. -/
inductive WireMoment where
  /-- `t` microseconds after the first bit of the frame the part sends began, or, once a row has shown its slot to be
  running, after the slot in hand began. The receiver has held CK for `stretches` microseconds past the part's release in
  the handshakes so far, from the first on, and for none in one not listed (R4, R8). -/
  | sending (stretches : List Nat) (t : Nat)
  /-- The first or the second acknowledge clock of a station's frame with these ten bits (R11). -/
  | answering (bits : BitVec 10) (second : Bool)
  /-- No bit of the part's and no acknowledge clock of a station's; the header's wait before its first bit is one (R13). -/
  | quiet
deriving DecidableEq, Repr

/-- Where a moment falls among handshakes on CK that follow one another: how many have ended, and the microseconds into the
one in hand. Each lasts 4 microseconds and its stretch (R4). -/
def handshakeAt : List Nat → Nat → Nat × Nat
  | [], t => (t / Config.handshakeMicros, t % Config.handshakeMicros)
  | w :: ws, t =>
    if t < Config.handshakeMicros + w then (0, t)
    else ((handshakeAt ws (t - (Config.handshakeMicros + w))).1 + 1, (handshakeAt ws (t - (Config.handshakeMicros + w))).2)

/-- The handshakes on CK that the part makes: the microseconds before the first of them, and its number. Numbers 0 to 9 carry
the bits of a Basic frame, 10 and 11 are the acknowledge clocks. A Clocked frame has its ten bit periods first and only the
acknowledge clocks on CK, and so has a slot clocked again (R4, R7, R8, R9). -/
def State.handshakes (s : State) : Option (Nat × Nat) :=
  if s.bus.activity = .header ∨ s.bus.activity = .sending then
    match s.bus.timer.map (·.slot), s.clockedFrame with
    | some true, _ => some (0, 10)
    | _, some r => some (10 * bitPeriod r, 10)
    | _, none => some (0, 0)
  else none

/-- The handshake in hand at a moment of the part's sending, and the microseconds into it; none before the first and after
the second acknowledge clock (R4, R8). -/
def State.handshake (s : State) (stretches : List Nat) (t : Nat) : Option (Nat × Nat) :=
  s.handshakes.bind fun (start, first) =>
    let p := handshakeAt stretches (t - start)
    if start ≤ t ∧ first + p.1 < 12 then some (first + p.1, p.2) else none

/-- CK asserted by the part: in each handshake of its own from 1 to 3 microseconds, and at no other time. A station's clock
and a receiver's stretch are not the part's (R1, R4, R5, R8). -/
def State.ckLine (s : State) : WireMoment → Bool
  | .sending stretches t => (s.handshake stretches t).any fun (_, u) => Decidable.decide (1 ≤ u ∧ u < 3)
  | .answering _ _ => false
  | .quiet => false

/-- DT asserted by the part: the bit in hand of the frame it sends, released for the slot; and its answer to a station's
frame, in the acknowledge clocks of that frame's slot (R1, R4, R7, R8, R11). -/
def State.dtLine (s : State) : WireMoment → Bool
  | .sending stretches t =>
    match s.clockedDt t with
    | some b => b
    | none => (s.handshake stretches t).any fun (k, _) => Decidable.decide (k < 10) && s.bus.frame.bits.getLsbD k
  | .answering bits second =>
    (s.bus.activity == .turnaround || s.bus.activity == .receiving) &&
      (if second then (givenSlot bits).2 else (givenSlot bits).1)
  | .quiet => false

/-- The level the part drives on STB; none is released (R1, R7). -/
def State.stbLine (s : State) : WireMoment → Option Bool
  | .sending _ t => s.stbLevel t
  | .answering _ _ => none
  | .quiet => none

/-- The part receives STB while a station is the Clocked sender and during the Handback of a Clocked exchange (R1, R14). -/
def State.watchesStb (s : State) : Bool :=
  (s.bus.activity == .receiving || s.bus.activity == .handback) && s.exchange.any Exchange.isClocked

/-- An open-drain line is asserted when the part or any station asserts it (R1). -/
def busAsserted (part stations : Bool) : Bool := part || stations

/-- The level of an open-drain line: low when asserted, and pulled high when released (R1). -/
def lineHigh (asserted : Bool) : Bool := !asserted

/-- The level of STB: as its one sender drives it, and high when it is released (R1, R7). -/
def stbHigh (sender : Option Bool) : Bool := sender.getD true

/-- The microseconds SEL stands asserted before the header's first bit (R13). -/
def State.headerLeadMicros (s : State) : Option Nat :=
  if s.bus.activity = .header ∧ s.bus.headerIndex = 0 ∧ s.bus.nakCount = 0 then some Config.headerLeadMicros else none

end Sys2Proof.Machine
end

