-- ==== Sys2Proof/WellFormed.lean ====
section
/-! DEFINITION. Which commands the spec's rows describe. The operand types leave one check: the byte of UNKNOWN_COMMAND
is no command code (R175). -/

namespace Sys2Proof

/-- The bytes R175 lists as command codes: 01 to 0B hex and 1F hex. -/
def isCommandCode (v : Byte) : Bool :=
  (1 ≤ v.toNat && v.toNat ≤ 11) || v.toNat == 31

/-- The command is one its row describes. -/
def Instr.wellFormed : Instr → Bool
  | .unknownCommand v => !isCommandCode v
  | _ => true

end Sys2Proof
end

