-- ==== Sys2Proof/Safety.lean ====
section
/-! DEFINITION. What the laws of the spec say of a state, as decidable propositions, and the words in which statements about
steps are put: which commands are window accesses, and the tally of a job's record and its event. -/

namespace Sys2Proof.Machine

/-! ### The laws of the spec -/

/-- The law of the job queue (R86): at most 8 jobs, and an Active job is its head. -/
abbrev State.QueueLaw (s : State) : Prop :=
  s.jobs.length ≤ Config.jobLimit ∧ (s.active.isSome = true → s.jobs ≠ [])

/-- The activities a phase of an exchange corresponds to (section 2.1). -/
def Phase.fits : Phase → Activity → Bool
  | .header, a => a == .clearing || a == .header
  | .answer, a => a == .turnaround
  | .inbound, a => a == .receiving
  | .handback, a => a == .handback
  | .outbound, a => a == .sending
  | .cut, a => a == .cutting

/-- An exchange has an outcome exactly while it is in Cut, and it is one that calls for a CUT (R39, R40). -/
def Exchange.outcomeFits (e : Exchange) : Bool :=
  match e.outcome with
  | none => e.phase != .cut
  | some o => e.phase == .cut && (o.failure || o == .cutByRequest)

/-- The bus unit carries what the exchange context says (section 2.1, R2): a phase's activity while there is an exchange,
and Free or a pulse while there is none. -/
def State.busFits (s : State) : Bool :=
  match s.exchange with
  | some e => e.phase.fits s.bus.activity && e.outcomeFits
  | none => s.bus.activity == .free || s.bus.activity == .pulsing

/-- The head job is a BUSRESET. -/
def State.headIsBusReset (s : State) : Bool := s.jobs.head?.any fun j => j.kind == .busReset

/-- The state of the sequencer agrees with its contexts (the table of R89). -/
def State.seqFits (s : State) : Bool :=
  match s.seq.state with
  | .idle => s.active.isNone && s.attention.scan.isNone && s.exchange.isNone
  | .running => s.active.isSome && s.attention.scan.isNone && !s.headIsBusReset
  | .holding => s.active.isSome && s.attention.scan.isNone && s.exchange.isNone && !s.headIsBusReset
  | .cutting => s.attention.scan.isNone && s.exchange.any fun e => e.phase == .cut
  | .scanning => s.active.isNone && s.attention.scan.isSome
  | .resetting => s.active.isSome && s.attention.scan.isNone && s.exchange.isNone && s.headIsBusReset

/-- The law of the station bus (R2, R89): one activity at a time, no request waiting, and BRST asserted exactly while the
sequencer is Resetting. -/
abbrev State.BusLaw (s : State) : Prop :=
  s.bus.waiting = none ∧ s.busFits = true ∧ s.seqFits = true ∧
    (s.bus.activity = .pulsing ↔ s.seq.state = .resetting)

/-- The law of event slots (R133): each reservation has its one holder, and events held and reservations are at most 16. The
last clause carries it: a byte move in progress is one of a Running channel (R160, R167). -/
abbrev State.SlotLaw (s : State) : Prop :=
  s.events.reserved.Nodup ∧ s.events.held.length + s.events.reserved.length ≤ Config.eventSlots ∧
    (Holder.job ∈ s.events.reserved ↔ s.active.isSome = true) ∧
    (Holder.scan ∈ s.events.reserved ↔ s.attention.scan.isSome = true) ∧
    (∀ c ∈ [Chan.a, Chan.b], (Holder.channel c ∈ s.events.reserved ↔ (s.chan c).running = true)) ∧
    ∀ c ∈ [Chan.a, Chan.b], s.moving c = true → (s.chan c).running = true

/-- The law of the pages (R59, R60): free pages and pages lent are the sixteen pages, each once; the free set is kept lowest
first; a Closed link has none. -/
abbrev State.PageLaw (s : State) : Prop :=
  (s.freePages ++ s.links.toList.flatMap (·.pages)).Perm allPages ∧ s.freePages.Pairwise (· < ·) ∧
    ∀ i : LinkIndex, (s.link i).state = .closed → (s.link i).pages = []

/-- The Active job is of this kind and names this link. -/
def State.jobHolds (s : State) (k : JobKind) (i : LinkIndex) : Bool :=
  match s.activeJob with
  | some (j, _) => j.kind == k && j.linkIndex == i
  | none => false

/-- A link is Opening exactly while an Active OPEN job names it, and Shutting exactly while an Active SHUT job does (R68,
R100). -/
abbrev State.LinkJobLaw (s : State) : Prop :=
  ∀ i : LinkIndex, ((s.link i).state = .opening ↔ s.jobHolds .openLink i = true) ∧
    ((s.link i).state = .shutting ↔ s.jobHolds .shut i = true)

/-- The law of endpoints (R63): no two links that are not Closed have the same station, channel and direction. -/
abbrev State.EndpointLaw (s : State) : Prop :=
  ∀ i j : LinkIndex, i ≠ j → (s.link i).bound = true → (s.link j).bound = true →
    ¬((s.link i).station = (s.link j).station ∧ (s.link i).channel = (s.link j).channel ∧ (s.link i).dir = (s.link j).dir)

/-- The law of mover bindings (R80): a link's holder is a Running channel programmed with that link, a Closed link has no
holder, and a Running channel with no stop pending holds its link. -/
abbrev State.HolderLaw (s : State) : Prop :=
  ∀ c ∈ [Chan.a, Chan.b],
    (∀ i : LinkIndex, (s.link i).holder = some c →
      (s.chan c).running = true ∧ (s.chan c).link = i ∧ (s.link i).state ≠ .closed) ∧
    ((s.chan c).running = true → (s.chan c).stopPending = none → (s.link (s.chan c).link).holder = some c)

/-- Bytes move only in the data phase, and the data phase is one of an ACCEPT: an exchange has frames done only in Inbound,
in Outbound, and in a TAKE's Handback, and then, as in all of Inbound and Outbound, its answer was ACCEPT (R28, R32, R34,
R35). -/
def Exchange.framesFit (e : Exchange) : Bool :=
  (e.answer.any (·.code == 0) || (e.framesDone == 0 && e.phase != .inbound && e.phase != .outbound)) &&
    (e.framesDone == 0 || e.phase == .inbound || e.phase == .outbound || (e.phase == .handback && e.kind == .take))

/-- The Active PUT or TAKE has bytes left to move, and its exchange, unless it is in Cut, is of its kind and moves no more
than they (R79, R84, R102). -/
def State.limitFits (s : State) : Bool :=
  match s.activeJob with
  | none => true
  | some (j, x) =>
    if j.kind == .put || j.kind == .take then
      match s.exchange with
      | none => Decidable.decide (x.bytesMoved < j.limit.toNat)
      | some e =>
        e.phase == .cut ||
          ((e.kind == if j.kind == .put then .put else .take) &&
            e.framesFit && Decidable.decide (e.framesDone ≤ e.length.toNat) &&
            ((e.phase == .handback && e.kind == .take) || Decidable.decide (e.framesDone < e.length.toNat)) &&
            Decidable.decide (x.bytesMoved < j.limit.toNat) &&
            Decidable.decide (x.bytesMoved + e.length.toNat ≤ j.limit.toNat))
    else true

/-- The law of the limit: a PUT or TAKE in the queue has a limit of 1 or more (R85), and the Active one keeps to its limit
(R102). -/
abbrev State.LimitLaw (s : State) : Prop :=
  (∀ j ∈ s.jobs, j.kind = .put ∨ j.kind = .take → 1 ≤ j.limit.toNat) ∧ s.limitFits = true

/-- A TAKE exchange that may still receive data frames fits its link: the link is IN, it has room for the rest of the length
and for one mark (R76). -/
def State.takeFits (s : State) : Bool :=
  match s.exchange with
  | none => true
  | some e =>
    if e.kind == .take && (e.phase == .header || e.phase == .answer || e.phase == .inbound) then
      match s.activeJob with
      | none => false
      | some (j, _) =>
        let l := s.link j.linkIndex
        j.kind == .take && l.dir == .input && Decidable.decide (e.framesDone < e.length.toNat) &&
          Decidable.decide (l.count + (e.length.toNat - e.framesDone) ≤ l.capacity) && Decidable.decide (l.marks < Config.markLimit)
    else true

/-- The law of ring contents (R70): a ring never holds more than its capacity nor more than 8 marks. The two last clauses
carry it: a TAKE has room for what it may bring, and a MARK-AT-END channel has room for its mark (R73, R76). -/
abbrev State.RingLaw (s : State) : Prop :=
  (∀ i : LinkIndex, (s.link i).count ≤ (s.link i).capacity ∧ (s.link i).marks ≤ Config.markLimit) ∧
    s.takeFits = true ∧
    ∀ c ∈ [Chan.a, Chan.b], ∀ i : LinkIndex, (s.link i).holder = some c → (s.link i).dir = .output →
      (s.chan c).mode = true → (s.link i).marks < Config.markLimit

/-- The exchange in progress runs, or may yet run, a Clocked data phase only with the pace request its header carried and a
capable answer, and while its entry is not demoted (R22, R49). -/
def State.paceFits (s : State) : Bool :=
  match s.exchange with
  | none => true
  | some e =>
    !(e.kind == .put || e.kind == .take) ||
      ((!e.isClocked || (e.paceRequest && e.answer.any (·.capability))) &&
        (!e.paceRequest || e.phase == .cut || !(s.station e.station).demoted))

/-- The law of pace (R22) and of demotion (section 3.3): a demoted entry has streak 0. -/
abbrev State.PaceLaw (s : State) : Prop :=
  s.paceFits = true ∧ ∀ i : StationIndex, (s.station i).demoted = true → (s.station i).streak = false

/-- The law of the scan context (R118): no station is visited twice, and visits counts them. -/
def State.scanFits (s : State) : Bool :=
  match s.attention.scan with
  | none => true
  | some x => Decidable.decide x.visited.Nodup && x.visits == x.visited.length

/-- Every law together. -/
abbrev State.Lawful (s : State) : Prop :=
  s.QueueLaw ∧ s.BusLaw ∧ s.SlotLaw ∧ s.PageLaw ∧ s.LinkJobLaw ∧ s.EndpointLaw ∧ s.HolderLaw ∧ s.LimitLaw ∧ s.RingLaw ∧
    s.PaceLaw ∧ s.scanFits = true

/-! ### Words of the statements -/

/-- The command is a window access (R169). -/
def windowAccess : Instr → Bool
  | .indexWrite _ | .statusRead | .cfgWrite _ | .intEnWrite _ | .sSelWrite _ | .lSelWrite _ | .pLinkWrite _
  | .maLinkWrite _ | .registerWrite _ | .lCountLRead | .lTotalLRead | .maAddrLRead | .maCountLRead | .pFlagsRead
  | .portRead | .portWrite _ | .post | .pop | .abort | .purge | .askRearm | .portMark | .portSkip | .moverStart _
  | .moverStop _ | .softReset | .unknownCommand _ | .dataRead => true
  | .pinReset | .askLineAsserted | .askLineReleased | .bgntGiven | .bgntWithdrawn | .byteMoveCompletion _ | .linesReleased
  | .ackRead | .nakRead | .answerReceived _ _ | .frameReceived _ _ | .nakGiven | .handback | .stbEdgeInHandback
  | .answerTimeout | .frameTimeout | .turnError | .cutCompletion | .pulseCompletion | .busyDelayEnd | .nextStep
  | .noPattern | .answerTenthBit => false

/-- The record is of class JOB (R131). -/
def Event.isJob (e : Event) : Bool :=
  match e.kind with
  | .job _ => true
  | _ => false

/-- The jobs in the queue and the JOB events held: what one job is counted in, from POST to POP (R115). -/
def State.jobTally (s : State) : Nat := s.jobs.length + s.events.held.countP Event.isJob

/-- The state after the Active job's end (R115): its event joins the tail in its own slot, the job leaves the queue, which
sets QROOM when the level falls from 8 (R87), and the sequencer is Idle with no context. -/
def State.afterJobEnd (s : State) (e : Event) : State :=
  { s with
    jobs := s.jobs.tail
    active := none
    exchange := none
    seq := { s.seq with state := .idle }
    events := { held := s.events.held ++ [e], reserved := s.events.reserved.erase .job,
                qroom := s.events.qroom || s.jobs.length == Config.jobLimit } }

/-- The state after a byte move whose claim was taken, before its channel's end is judged (R160): the address rises, wrapping,
the count falls, moved rises, and no move is in progress. -/
def State.afterCounted (s : State) (c : Chan) : State :=
  { s with
    mover := { s.mover.setChan c { s.chan c with
      addr := (s.chan c).addr + 1, count := (s.chan c).count - 1, moved := (s.chan c).moved + 1 } with move := none } }

/-- The MOVER event of a run that stops (R132, R167): DONE for COUNT and MARK and STOPPED for the rest, the channel, the stop
reason, the bytes moved, the link, and flags 0. -/
def Channel.stopRecord (ch : Channel) (c : Chan) (r : StopReason) : Event :=
  { kind := if r = .count ∨ r = .mark then .moverDone else .moverStopped
    source := (match c with
      | .a => 0
      | .b => 1)
    result := .stop r, count := ch.moved, detail := BitVec.ofNat 8 ch.link.val, flags := 0 }

/-- The state after the end of a channel's run (R167): the channel is Idle, its link is released and its event posted. -/
def State.afterRunEnd (s : State) (c : Chan) (r : StopReason) : State :=
  { s with
    links := s.links.set (s.chan c).link
      { s.link (s.chan c).link with
        holder := if (s.link (s.chan c).link).holder = some c then none else (s.link (s.chan c).link).holder }
    mover := s.mover.setChan c { s.chan c with running := false, stopPending := none }
    events := { s.events with
      held := s.events.held ++ [(s.chan c).stopRecord c r]
      reserved := s.events.reserved.erase (.channel c) } }

/-- The state after a close of a link to which no mover channel is bound: its bytes and marks are gone, its pages free, and
its endpoint and total kept (R67, R61). The start of 0 is the model's choice (log 30). -/
def State.afterClose (s : State) (i : LinkIndex) : State :=
  { s with
    links := s.links.set i { s.link i with
      state := .closed, pages := [], start := 0, ring := [], inFlight := false, messageOpen := false, holder := none }
    freePages := allPages.filter fun p => p ∈ s.freePages ∨ p ∈ (s.link i).pages }

/-- `t` is the state after a job's end that closed the link of the Running channel `c`; `s` has the link closed already, and
the channel not yet stopped. With the channel's byte move in progress the reason waits as the stop pending, unless one waits
already. Else the run ends, and its event and the job's join the queue in one order or the other, by a free value (R67, R166,
R167, R135, R142, log 8). -/
def State.EndsStopping (s t : State) (c : Chan) (r : StopReason) (e : Event) : Prop :=
  (s.moving c = true ∧
    t = State.afterJobEnd
      { s with mover := s.mover.setChan c { s.chan c with stopPending := some ((s.chan c).stopPending.getD r) } } e) ∨
  (s.moving c = false ∧
    ∃ held ∈ [s.events.held ++ [(s.chan c).stopRecord c r, e], s.events.held ++ [e, (s.chan c).stopRecord c r]],
      t = { (s.afterRunEnd c r).afterJobEnd e with
        freeTick := s.freeTick + 1
        events := { ((s.afterRunEnd c r).afterJobEnd e).events with held := held } })

/-- The completion event of a job by its kind; `held` is the discarded count of a SHUT (R114, R179). -/
def Job.endRecord (j : Job) (x : JobContext) (r : JobResult) (held : Nat) : Event :=
  { kind := .job j.kind, source := j.tag, result := .code r
    count := BitVec.ofNat 16 (match j.kind with
      | .shut => held
      | .put | .take => x.bytesMoved
      | .census => (List.finRange 14).countP fun i => x.census.getLsbD i.val
      | .openLink | .status | .probe | .busReset => 0)
    detail := (match j.kind with
      | .openLink | .put | .take => BitVec.ofNat 8 x.busyCount
      | .shut => BitVec.ofNat 8 held
      | .status => x.statusByte.getD 0
      | .probe => (match x.probe with
        | .none => 0
        | .basic => 1
        | .clocked => 2)
      | .census => BitVec.ofNat 8 x.census.toNat
      | .busReset => 0)
    flags := if j.kind = .census then BitVec.ofNat 8 (x.census.toNat / 256)
      else BitVec.ofNat 8 (bitVal x.msgEnd + 2 * bitVal x.emptyAnswer + 4 * bitVal x.demoted + 8 * bitVal x.localClose +
        16 * bitVal x.testClk) }

/-- The job context with the counts of an exchange that has ended (R94, R105, R106, R107). -/
def JobContext.withExchange (x : JobContext) (e : Exchange) : JobContext :=
  { x with
    bytesMoved := x.bytesMoved + e.framesDone
    msgEnd := x.msgEnd || e.markReceived
    statusByte := if e.statusByte = none then x.statusByte else e.statusByte
    probe := (match e.testResult with
      | none => x.probe
      | some { clocked := true, passed := _ } => .clocked
      | some { clocked := false, passed := _ } => .basic)
    testClk := x.testClk || e.testResult == some { clocked := true, passed := true } }

/-- The effective pace of a station is Clocked (R51). -/
def State.mayClock (s : State) (i : StationIndex) : Bool :=
  s.settings.clocked && (s.station i).capability == .clockedCapable && !(s.station i).demoted

/-- The exchange that a job of any kind but BUSRESET begins at an event, with its context as it stands there: the header of
its kind, a PUT or TAKE with its data claim passed and its length (R21, R22, R79, R99, R100, R102, R104, R106 to R108). -/
abbrev State.NextExchange (s : State) (j : Job) (x : JobContext) (r : Exchange) : Prop :=
  let l := s.link j.linkIndex
  (j.kind = .openLink ∧ r = Exchange.fresh .openChannel l.station l.channel l.dir false 0) ∨
  (j.kind = .shut ∧ r = Exchange.fresh .shut l.station l.channel l.dir false 0) ∨
  (j.kind = .put ∧ l.state = .opened ∧ l.dir = .output ∧ l.ring ≠ [] ∧
    r = Exchange.fresh .put l.station l.channel .output (s.mayClock l.station) r.length ∧
    r.length.toNat = min (min 255 (j.limit.toNat - x.bytesMoved))
      (min l.ring.length (((l.ring.findIdx? (·.marked)).map (· + 1)).getD l.ring.length))) ∨
  (j.kind = .take ∧ l.state = .opened ∧ l.dir = .input ∧ (l.ring.filter (·.marked)).length < 8 ∧
    l.ring.length < 256 * l.pages.length ∧
    r = Exchange.fresh .take l.station l.channel .input (s.mayClock l.station) r.length ∧
    r.length.toNat = min (min 255 (j.limit.toNat - x.bytesMoved)) (256 * l.pages.length - l.ring.length)) ∨
  (j.kind = .status ∧ r = Exchange.fresh .status j.stationIndex 0 .output false 0) ∨
  (j.kind = .probe ∧ r = Exchange.fresh .probe j.stationIndex 0 .output false (if s.settings.clocked then 2 else 0)) ∨
  (j.kind = .census ∧ r = Exchange.fresh .status x.visit 0 .output false 0)

/-- The answer of a failing data claim of a PUT or a TAKE on a link (R79). -/
abbrev Link.ClaimFails (l : Link) (k : JobKind) (r : JobResult) : Prop :=
  (l.state = .lost ∧ r = .linkLost) ∨
  (l.state ≠ .lost ∧ l.state ≠ .opened ∧ r = .linkState) ∨
  (l.state = .opened ∧ ((k = .put ∧ l.dir = .input) ∨ (k = .take ∧ l.dir = .output)) ∧ r = .wrongWay) ∨
  (l.state = .opened ∧ k = .take ∧ l.dir = .input ∧ 8 ≤ (l.ring.filter (·.marked)).length ∧ r = .marksFull) ∨
  (l.state = .opened ∧ k = .take ∧ l.dir = .input ∧ (l.ring.filter (·.marked)).length < 8 ∧
    256 * l.pages.length ≤ l.ring.length ∧ r = .ringFull)

/-- The arbiter may start the head job: the sequencer is Idle, no scan goes first, and an event slot is free (R90, R92). -/
abbrev State.JobMayStart (s : State) (j : Job) : Prop :=
  s.seq.state = .idle ∧ s.jobs.head? = some j ∧
    (s.seq.jobTurn = true ∨ s.attention.latch = false ∨ s.settings.scan = false ∨ s.attention.mask = true) ∧
    s.events.held.length + s.events.reserved.length < 16

/-- The state once the head job has started and before its kind's start is applied: its slot is reserved, it is Active with a
fresh context, and the job-turn flag is clear (R93). -/
def State.afterStart (s : State) : State :=
  { s with
    seq := { s.seq with state := .running, stall := false, jobTurn := false }
    events := { s.events with reserved := s.events.reserved ++ [.job] }
    active := some JobContext.fresh }

/-- The record of the bus unit once a CUT has begun (R16). -/
def BusUnit.inCut (b : BusUnit) : BusUnit := { b with activity := .cutting, waiting := none, nakCount := 0, timer := none }

/-- The record of the bus unit in Free (R2). -/
def BusUnit.inFree (b : BusUnit) : BusUnit := { b with activity := .free, waiting := none, nakCount := 0, timer := none }

/-- The record of the bus unit once a header request has entered Clearing (R15). -/
def BusUnit.inClearing (b : BusUnit) (g : Settings) : BusUnit :=
  { b with activity := .clearing, nakCount := 0, timer := some { timer := .turn, units := g.tTurn } }

/-- The window after a DATA access that is taken: CMDERR cleared, INDEX stepped if CFG.STEP is set (R171, R176). -/
def Window.afterTaken (w : Window) (stepping : Bool) : Window :=
  { w with cmdErr := false, index := if stepping then w.index + 1 else w.index }

/-- The window after a refused DATA write (R173, R176). -/
def Window.afterRefused (w : Window) (stepping : Bool) (r : Reason) : Window :=
  { w with cmdErr := true, refuse := some r, index := if stepping then w.index + 1 else w.index }

/-- The window after a DATA access that is ignored or only reads (R171, R172). -/
def Window.afterAccess (w : Window) (stepping : Bool) : Window :=
  { w with index := if stepping then w.index + 1 else w.index }

end Sys2Proof.Machine
end

