-- ==== Sys2Proof/Certificates/Slice0/Obligations.lean ====
section
/-! DEFINITION. The statements for the provers. Each says what a row of the table does, or a law of the spec that every step
keeps. A result is given as the whole next state, so that its frame is part of it. -/

open Sys2Proof Sys2Proof.Machine

/-! ### The machine as a whole -/

/-- A step takes the command at the front of the queue and runs it on the rest; an empty queue idles (log 5). -/
def Obligations.StepRunsFrontCommand : Prop :=
  (∀ (c : Instr) (rest : List Instr) (s : State), step (s.setPending (c :: rest)) = exec c (s.setPending rest)) ∧
    ∀ s : State, s.pending = [] → step s = .next s

/-- Every command answers a next state, since the spec names no fault and every refusal it names is a recorded outcome
(R176); and no command touches the queue of waiting commands (log 5). -/
def Obligations.EveryCommandAnswersAndKeepsTheQueue : Prop :=
  ∀ (c : Instr) (s : State), ∃ t, exec c s = .next t ∧ t.pending = s.pending

/-- While BGNT is given and a byte move is in progress no window access is taken: the state stays (R169, log 12). -/
def Obligations.WindowShutTakesNoAccess : Prop :=
  ∀ (c : Instr) (s : State), windowAccess c = true → s.pins.bgnt = true → s.mover.move.isSome = true →
    exec c s = .next s

/-! ### The register window (chapter 10) -/

/-- R170: INDEX stores the low six bits of a write of offset 0, with CMDERR and REFUSE as they were; a read of offset 0
returns STATUS; INDEX is 0 at pin reset and is kept by SOFT-RESET and by a bus reset. -/
def Obligations.IndexRegister : Prop :=
  ∀ (s : State) (v : Byte),
    (s.windowShut = false →
      exec (.indexWrite v) s = .next { s with window := { s.window with index := v.setWidth 6 } }) ∧
    (s.windowShut = false → ∃ t, exec .statusRead s = .next t ∧ t.pins.readData = s.statusByte ∧ t.window = s.window) ∧
    (∃ t, exec .pinReset s = .next t ∧ t.window.index = 0) ∧
    (s.windowShut = false → ∃ t, exec .softReset s = .next t ∧ t.window.index = s.window.index) ∧
    (∃ t, exec .pulseCompletion s = .next t ∧ t.window.index = s.window.index)

/-- A STATUS read returns the eight fields of R174, PORTRDY judged by R151, and clears the QROOM latch (R138, log 1). -/
def Obligations.StatusReadResult : Prop :=
  ∀ s : State, s.windowShut = false →
    ∃ t, exec .statusRead s = .next t ∧
      t = { s with events := { s.events with qroom := false }, pins := { s.pins with readData := t.pins.readData } } ∧
      t.pins.readData.getLsbD 0 = !s.events.held.isEmpty ∧
      t.pins.readData.getLsbD 1 = (s.jobs.length == 8) ∧
      t.pins.readData.getLsbD 2 = s.events.qroom ∧
      t.pins.readData.getLsbD 3 = (s.seq.state == .idle) ∧
      t.pins.readData.getLsbD 4 = (s.seq.state == .idle && s.seq.stall) ∧
      (t.pins.readData.getLsbD 5 = true ↔ (s.link s.port.link).holder = none ∧
        (((s.link s.port.link).dir = .input ∧ (s.link s.port.link).state ∈ [.opened, .shutting, .lost] ∧
            (s.link s.port.link).ring ≠ []) ∨
          ((s.link s.port.link).dir = .output ∧ (s.link s.port.link).state ∈ [.opening, .opened] ∧
            (s.link s.port.link).ring.length < 256 * (s.link s.port.link).pages.length))) ∧
      t.pins.readData.getLsbD 6 = s.pins.askLine ∧
      t.pins.readData.getLsbD 7 = s.window.cmdErr

/-- A DATA write to CFG stores CLOCKED, SCAN and STEP; a clear SCAN clears the ASK latch, a set SCAN applies R119; an
Idle arbiter decides; INDEX steps by the new STEP (R119, R120, R171, R90). -/
def Obligations.CfgWriteResult : Prop :=
  ∀ (s : State) (v : Byte), s.windowShut = false → s.window.index = 0 →
    exec (.cfgWrite v) s = .next
      { State.decide { s with
          settings := { s.settings with clocked := v.getLsbD 0, scan := v.getLsbD 1, step := v.getLsbD 2 }
          attention := { s.attention with
            latch := v.getLsbD 1 && (s.attention.latch ||
              (s.pins.askLine && !s.attention.mask && s.attention.scan.isNone)) } }
        with window := s.window.afterTaken (v.getLsbD 2) }

/-- DATA writes to INT-EN, RETRY, BUSY-DELAY, CLK-RATE, the timers and RST-PULSE store what the map gives, with 0 stored
as 1 in a timer and in RST-PULSE; a T-FRAME write reaches the runs of the frame timer that begin after it, and no other
wait (R139, R12, R95, R96, R6, R18, R17, R172, logs 2 and 6). DATA writes to the staging registers store the byte, of
J-CHAN and J-LIMIT-H the low four bits (R84, log 2). -/
def Obligations.ConfigurationAndStagingWrites : Prop :=
  (∀ (s : State) (v : Byte), s.windowShut = false →
     (s.window.index = 1 → exec (.intEnWrite v) s = .next { s with
       settings := { s.settings with
         intJob := v.getLsbD 0, intAsk := v.getLsbD 1, intMover := v.getLsbD 2, intQroom := v.getLsbD 3 }
       window := s.window.afterTaken s.settings.step }) ∧
     (s.window.index = 2 → exec (.registerWrite v) s = .next { s with
       settings := { s.settings with tAnswer := if v = 0 then 1 else v }, window := s.window.afterTaken s.settings.step }) ∧
     (s.window.index = 3 → exec (.registerWrite v) s = .next { s with
       settings := { s.settings with tFrame := if v = 0 then 1 else v }
       bus := { s.bus with timer := s.bus.timer.map fun w =>
         if w.timer = .frame ∧ w.slot = false ∧ (if v = 0 then 1 else v) ∉ w.units :: w.later
           then { w with later := w.later ++ [if v = 0 then 1 else v] } else w }
       window := s.window.afterTaken s.settings.step }) ∧
     (s.window.index = 4 → exec (.registerWrite v) s = .next { s with
       settings := { s.settings with tTurn := if v = 0 then 1 else v }, window := s.window.afterTaken s.settings.step }) ∧
     (s.window.index = 5 → exec (.registerWrite v) s = .next { s with
       settings := { s.settings with
         busyLimit := BitVec.ofNat 4 v.toNat, frameLimit := BitVec.ofNat 4 (v.toNat / 16) }
       window := s.window.afterTaken s.settings.step }) ∧
     (s.window.index = 6 → exec (.registerWrite v) s = .next { s with
       settings := { s.settings with busyDelay := v }, window := s.window.afterTaken s.settings.step }) ∧
     (s.window.index = 7 → exec (.registerWrite v) s = .next { s with
       settings := { s.settings with
         rstPulse := if v.toNat % 16 = 0 then 1 else BitVec.ofNat 4 v.toNat }
       window := s.window.afterTaken s.settings.step }) ∧
     (s.window.index = 8 → exec (.registerWrite v) s = .next { s with
       settings := { s.settings with clkRate := BitVec.ofNat 2 v.toNat }
       window := s.window.afterTaken s.settings.step })) ∧
  (∀ (s : State) (v : Byte), s.windowShut = false → 10 ≤ s.window.index.toNat → s.window.index.toNat ≤ 17 →
     exec (.registerWrite v) s = .next { s with
       settings := (match s.window.index.toNat with
         | 10 => { s.settings with jKind := v }
         | 11 => { s.settings with jTag := v }
         | 12 => { s.settings with jLink := v }
         | 13 => { s.settings with jStation := v }
         | 14 => { s.settings with jChan := BitVec.ofNat 4 v.toNat }
         | 15 => { s.settings with jPages := v }
         | 16 => { s.settings with jLimitL := v }
         | _ => { s.settings with jLimitH := BitVec.ofNat 4 v.toNat })
       window := s.window.afterTaken s.settings.step })

/-- DATA writes to S-SEL, L-SEL and P-LINK store a value in range, and are refused BAD-VALUE out of it; a taken P-LINK
write clears LAST (R56, R82, R144, R173, R176, log 2). DATA writes to a mover channel's registers: refused
CHANNEL-RUNNING while it runs, whatever the value; while it is Idle MA-LINK is refused BAD-VALUE from 12 up, and every
other value is stored (R156, R173, log 2). -/
def Obligations.CheckedWrites : Prop :=
  (∀ (s : State) (v : Byte), s.windowShut = false →
     (s.window.index = 32 → exec (.sSelWrite v) s = .next
       (if h : v.toNat < 14 then { s with window := { s.window.afterTaken s.settings.step with sSel := ⟨v.toNat, h⟩ } }
         else { s with window := s.window.afterRefused s.settings.step .badValue })) ∧
     (s.window.index = 36 → exec (.lSelWrite v) s = .next
       (if h : v.toNat < 12 then { s with window := { s.window.afterTaken s.settings.step with lSel := ⟨v.toNat, h⟩ } }
         else { s with window := s.window.afterRefused s.settings.step .badValue })) ∧
     (s.window.index = 46 → exec (.pLinkWrite v) s = .next
       (if h : v.toNat < 12 then
         { s with
           port := { s.port with link := ⟨v.toNat, h⟩, last := false }
           window := s.window.afterTaken s.settings.step }
         else { s with window := s.window.afterRefused s.settings.step .badValue }))) ∧
  (∀ (s : State) (c : Chan) (v : Byte), s.windowShut = false →
     (s.window.index.toNat = 48 + 8 * chanCode c → exec (.maLinkWrite v) s = .next
       (if (s.chan c).running then { s with window := s.window.afterRefused s.settings.step .channelRunning }
         else if h : v.toNat < 12 then
           { s with
             mover := s.mover.setChan c { s.chan c with link := ⟨v.toNat, h⟩ }
             window := s.window.afterTaken s.settings.step }
         else { s with window := s.window.afterRefused s.settings.step .badValue })) ∧
     (49 + 8 * chanCode c ≤ s.window.index.toNat → s.window.index.toNat ≤ 53 + 8 * chanCode c →
       exec (.registerWrite v) s = .next
         (if (s.chan c).running then { s with window := s.window.afterRefused s.settings.step .channelRunning }
           else { s with
             mover := s.mover.setChan c (match s.window.index.toNat - 8 * chanCode c with
               | 49 => { s.chan c with addr := BitVec.ofNat 16 (256 * ((s.chan c).addr.toNat / 256) + v.toNat) }
               | 50 => { s.chan c with addr := BitVec.ofNat 16 (256 * v.toNat + (s.chan c).addr.toNat % 256) }
               | 51 => { s.chan c with count := BitVec.ofNat 16 (256 * ((s.chan c).count.toNat / 256) + v.toNat) }
               | 52 => { s.chan c with count := BitVec.ofNat 16 (256 * v.toNat + (s.chan c).count.toNat % 256) }
               | _ => { s.chan c with mode := v.getLsbD 0 })
             window := s.window.afterTaken s.settings.step })))

/-- A DATA write at a read-only or an unassigned index changes nothing but INDEX, which steps (R172, R171, log 2). A
DATA read changes nothing but the byte returned and INDEX, except at the indices whose reads have an effect; an
unassigned index reads 0 (R171, R172, log 2). -/
def Obligations.PlainAccessesStepIndex : Prop :=
  (∀ (s : State) (v : Byte), s.windowShut = false →
     s.window.index.toNat ∈ [9, 18, 19, 20, 21, 22, 23, 24, 25, 26, 27, 28, 29, 30, 31, 33, 34, 35, 37, 38, 39, 40, 41, 42,
       43, 44, 45, 47, 54, 55, 62, 63] →
     exec (.registerWrite v) s = .next { s with window := s.window.afterAccess s.settings.step }) ∧
  (∀ s : State, s.windowShut = false →
     s.window.index.toNat ∉ [40, 43, 47, 49, 51, 57, 59] →
     ∃ t, exec .dataRead s = .next t ∧
       t = { s with
         pins := { s.pins with readData := t.pins.readData }
         window := s.window.afterAccess s.settings.step } ∧
       (s.window.index.toNat ∈ [9, 31, 55, 63] → t.pins.readData = 0))

/-- The event-head registers read the fields of the head record in the codes of R179, and 0 while the queue is empty;
E-LEVEL reads the events held (R137). The station and link view registers read the fields of the selected entry and
record in the places of section 10.6.4 (R57, R83, R59). The sequencer, queue, refusal, selection and mover registers
read their fields in the places and codes of sections 10.3, 10.4 and 10.6.4 (R89, R92, R86, R88, R176, R56, R82, R143,
R156, R158). The configuration and staging registers read what they hold, each field in its place (R12, R18, R84, R95,
R139, R172). L-COUNT, L-TOTAL, P-FLAGS and the mover addresses and counts, whose reads have an effect, are in
ReadsWithAnEffect. -/
def Obligations.HeadAndViewRegistersRead : Prop :=
  (∀ s : State, s.windowShut = false → 18 ≤ s.window.index.toNat → s.window.index.toNat ≤ 25 →
     ∃ t, exec .dataRead s = .next t ∧ t.events = s.events ∧
       t.pins.readData.toNat = (match s.window.index.toNat, s.events.held with
         | 25, l => l.length % 256
         | _, [] => 0
         | 18, e :: _ => (match e.kind with
           | .job .openLink => 65
           | .job .shut => 66
           | .job .put => 67
           | .job .take => 68
           | .job .status => 69
           | .job .probe => 70
           | .job .census => 71
           | .job .busReset => 72
           | .claimed => 129
           | .unclaimed => 130
           | .moverDone => 193
           | .moverStopped => 194)
         | 19, e :: _ => e.source.toNat
         | 20, e :: _ => (match e.result with
           | .code .done => 0
           | .code .aborted => 1
           | .code .noStation => 2
           | .code .busyLimit => 3
           | .code .noChannel => 4
           | .code .wrongState => 5
           | .code .frameError => 6
           | .code .frameTimeout => 7
           | .code .turnError => 8
           | .code .protocolError => 9
           | .code .linkState => 10
           | .code .wrongWay => 11
           | .code .linkLost => 12
           | .code .linkConflict => 13
           | .code .noPages => 14
           | .code .ringFull => 15
           | .code .marksFull => 16
           | .stop .count => 1
           | .stop .mark => 2
           | .stop .command => 3
           | .stop .shut => 4
           | .stop .lost => 5
           | .stop .link => 6)
         | 21, e :: _ => e.count.toNat % 256
         | 22, e :: _ => e.count.toNat / 256
         | 23, e :: _ => e.detail.toNat
         | _, e :: _ => e.flags.toNat)) ∧
  (∀ s : State, s.windowShut = false →
     ∃ t, exec .dataRead s = .next t ∧ t.stations = s.stations ∧ t.links = s.links ∧
       (s.window.index = 33 → t.pins.readData.toNat =
         (match (s.station s.window.sSel).presence with
           | .unknown => 0
           | .present => 1
           | .absent => 2) +
           4 * (match (s.station s.window.sSel).capability with
           | .unknown => 0
           | .basicOnly => 1
           | .clockedCapable => 2) +
           16 * bitVal (s.station s.window.sSel).demoted + 32 * bitVal (s.station s.window.sSel).streak +
           64 * bitVal (s.station s.window.sSel).askPending) ∧
       (s.window.index = 34 → t.pins.readData.toNat = bitVal (s.station s.window.sSel).lastStatus.isSome) ∧
       (s.window.index = 35 → t.pins.readData = (s.station s.window.sSel).lastStatus.getD 0) ∧
       (s.window.index = 37 → t.pins.readData.toNat =
         (match (s.link s.window.lSel).state with
           | .closed => 0
           | .opening => 1
           | .opened => 2
           | .shutting => 3
           | .lost => 4) + 8 * bitVal (s.link s.window.lSel).messageOpen +
           16 * (match (s.link s.window.lSel).holder with
           | none => 0
           | some .a => 1
           | some .b => 2)) ∧
       (s.window.index = 38 → t.pins.readData.toNat =
         (s.link s.window.lSel).station.val + 16 * (s.link s.window.lSel).channel.toNat +
           128 * bitVal (dirBit (s.link s.window.lSel).dir)) ∧
       (s.window.index = 39 → t.pins.readData.toNat = (s.link s.window.lSel).pages.length % 256) ∧
       (s.window.index = 42 → t.pins.readData.toNat = ((s.link s.window.lSel).ring.filter (·.marked)).length % 256) ∧
       (s.window.index = 45 → t.pins.readData.toNat = s.freePages.length % 256)) ∧
  (∀ (s : State) (c : Chan), s.windowShut = false →
     ∃ t, exec .dataRead s = .next t ∧ t.window.purged = s.window.purged ∧
       (s.window.index = 26 → t.pins.readData.toNat =
         128 * bitVal (s.seq.state == .idle && s.seq.stall) + (match s.seq.state with
           | .idle => 0
           | .running => 1
           | .holding => 2
           | .cutting => 3
           | .scanning => 4
           | .resetting => 5)) ∧
       (s.window.index = 27 → t.pins.readData.toNat = s.jobs.length % 256) ∧
       (s.window.index = 28 → t.pins.readData = ((s.jobs.head?).map (·.tag)).getD 0) ∧
       (s.window.index = 29 → t.pins.readData.toNat = s.window.purged % 256) ∧
       (s.window.index = 30 → t.pins.readData.toNat = (match s.window.refuse with
         | none => 0
         | some .badJob => 1
         | some .queueFull => 2
         | some .eventsEmpty => 3
         | some .nothingToAbort => 4
         | some .alreadyEnding => 5
         | some .notAbortable => 6
         | some .portDenied => 7
         | some .nothingToMark => 8
         | some .marksFull => 9
         | some .channelRunning => 10
         | some .zeroCount => 11
         | some .linkStateBad => 12
         | some .linkBusy => 13
         | some .noEventSlot => 14
         | some .channelIdle => 15
         | some .badValue => 16
         | some .unknownCommand => 17)) ∧
       (s.window.index = 32 → t.pins.readData.toNat = s.window.sSel.val) ∧
       (s.window.index = 36 → t.pins.readData.toNat = s.window.lSel.val) ∧
       (s.window.index = 46 → t.pins.readData.toNat = s.port.link.val) ∧
       (s.window.index.toNat = 48 + 8 * chanCode c → t.pins.readData.toNat = (s.chan c).link.val) ∧
       (s.window.index.toNat = 53 + 8 * chanCode c → t.pins.readData.toNat = bitVal (s.chan c).mode) ∧
       (s.window.index.toNat = 54 + 8 * chanCode c → t.pins.readData.toNat =
         bitVal (s.chan c).running + 2 * bitVal (dirBit (s.chan c).dir) +
           4 * (if (s.chan c).running = true ∧ (s.chan c).stopPending = none ∧
               (((s.chan c).dir = .input ∧ (s.link (s.chan c).link).ring ≠ []) ∨
                 ((s.chan c).dir = .output ∧
                   (s.link (s.chan c).link).ring.length < 256 * (s.link (s.chan c).link).pages.length)) then 1 else 0))) ∧
  (∀ s : State, s.windowShut = false →
     ∃ t, exec .dataRead s = .next t ∧ t.settings = s.settings ∧
       (s.window.index.toNat ≤ 8 ∨ (10 ≤ s.window.index.toNat ∧ s.window.index.toNat ≤ 17) →
         t.pins.readData.toNat = (match s.window.index.toNat with
           | 0 => bitVal s.settings.clocked + 2 * bitVal s.settings.scan + 4 * bitVal s.settings.step
           | 1 => bitVal s.settings.intJob + 2 * bitVal s.settings.intAsk + 4 * bitVal s.settings.intMover +
               8 * bitVal s.settings.intQroom
           | 2 => s.settings.tAnswer.toNat
           | 3 => s.settings.tFrame.toNat
           | 4 => s.settings.tTurn.toNat
           | 5 => s.settings.busyLimit.toNat + 16 * s.settings.frameLimit.toNat
           | 6 => s.settings.busyDelay.toNat
           | 7 => s.settings.rstPulse.toNat
           | 8 => s.settings.clkRate.toNat
           | 10 => s.settings.jKind.toNat
           | 11 => s.settings.jTag.toNat
           | 12 => s.settings.jLink.toNat
           | 13 => s.settings.jStation.toNat
           | 14 => s.settings.jChan.toNat
           | 15 => s.settings.jPages.toNat
           | 16 => s.settings.jLimitL.toNat
           | _ => s.settings.jLimitH.toNat)))

/-- A read of a low byte returns it and copies the high byte, of the ring count, of the total, of a channel's address
and of its count; a read of the high byte returns the copy (R83, R156, log 1). A P-FLAGS read returns the four flags and
clears the three sticky ones; LAST stays (R148). -/
def Obligations.ReadsWithAnEffect : Prop :=
  (∀ (s : State) (c : Chan), s.windowShut = false →
     (s.window.index = 40 → exec .lCountLRead s = .next { s with
       pins := { s.pins with readData := BitVec.ofNat 8 (s.link s.window.lSel).ring.length }
       window := { s.window.afterAccess s.settings.step with
         countHold := BitVec.ofNat 8 ((s.link s.window.lSel).ring.length / 256) } }) ∧
     (s.window.index = 41 → ∃ t, exec .dataRead s = .next t ∧ t.pins.readData = s.window.countHold) ∧
     (s.window.index = 43 → exec .lTotalLRead s = .next { s with
       pins := { s.pins with readData := BitVec.ofNat 8 (s.link s.window.lSel).total.toNat }
       window := { s.window.afterAccess s.settings.step with
         totalHold := BitVec.ofNat 8 ((s.link s.window.lSel).total.toNat / 256) } }) ∧
     (s.window.index = 44 → ∃ t, exec .dataRead s = .next t ∧ t.pins.readData = s.window.totalHold) ∧
     (s.window.index.toNat = 49 + 8 * chanCode c → exec .maAddrLRead s = .next { s with
       pins := { s.pins with readData := BitVec.ofNat 8 (s.chan c).addr.toNat }
       mover := s.mover.setChan c { s.chan c with addrHold := BitVec.ofNat 8 ((s.chan c).addr.toNat / 256) }
       window := s.window.afterAccess s.settings.step }) ∧
     (s.window.index.toNat = 50 + 8 * chanCode c →
       ∃ t, exec .dataRead s = .next t ∧ t.pins.readData = (s.chan c).addrHold) ∧
     (s.window.index.toNat = 51 + 8 * chanCode c → exec .maCountLRead s = .next { s with
       pins := { s.pins with readData := BitVec.ofNat 8 (s.chan c).count.toNat }
       mover := s.mover.setChan c { s.chan c with countHold := BitVec.ofNat 8 ((s.chan c).count.toNat / 256) }
       window := s.window.afterAccess s.settings.step }) ∧
     (s.window.index.toNat = 52 + 8 * chanCode c →
       ∃ t, exec .dataRead s = .next t ∧ t.pins.readData = (s.chan c).countHold)) ∧
  (∀ s : State, s.windowShut = false → s.window.index = 47 →
     exec .pFlagsRead s = .next { s with
       pins := { s.pins with
         readData := BitVec.ofNat 8 (bitVal s.port.last + 2 * bitVal s.port.underrun + 4 * bitVal s.port.overrun +
           8 * bitVal s.port.denied) }
       port := { s.port with underrun := false, overrun := false, denied := false }
       window := s.window.afterAccess s.settings.step })

/-- A write of offset 3 with a byte that is no command code is refused UNKNOWN-COMMAND and reaches no block (R175,
R176). ABORT is refused NOTHING-TO-ABORT in Idle, ALREADY-ENDING in Cutting and NOT-ABORTABLE in Scanning and Resetting
(R111). -/
def Obligations.RefusedCommands : Prop :=
  (∀ (s : State) (v : Byte), s.windowShut = false → (Instr.unknownCommand v).wellFormed = true →
     exec (.unknownCommand v) s = .next { s with
       window := { s.window with cmdErr := true, refuse := some .unknownCommand } }) ∧
  (∀ (s : State) (r : Reason), s.windowShut = false →
     (s.seq.state, r) ∈ [(.idle, .nothingToAbort), (.cutting, .alreadyEnding), (.scanning, .notAbortable),
       (.resetting, .notAbortable)] →
     exec .abort s = .next { s with window := { s.window with cmdErr := true, refuse := some r } })

/-! ### The buffer port (chapter 8) -/

/-- A PORT read delivers and removes the oldest byte, with LAST its mark; on an empty ring it returns 0 and sets
UNDERRUN; where direction, state or holder forbid it, it returns 0 and sets DENIED (R145, R146, R77, log 1). A PORT
write appends an unmarked byte and opens a message; on a full ring it drops the byte and sets OVERRUN; where direction,
state or holder forbid it, it drops the byte and sets DENIED (R147, R73, R71). -/
def Obligations.PortAccessResult : Prop :=
  (∀ (s : State) (l : Link) (cell : Cell) (rest : List Cell), s.windowShut = false → l = s.link s.port.link →
     ((l.dir = .input ∧ l.state ∈ [.opened, .shutting, .lost] ∧ l.holder = none) →
       (l.ring = cell :: rest → exec .portRead s = .next { s with
         links := s.links.set s.port.link { l with ring := rest, start := (l.start + 1) % (256 * l.pages.length) }
         port := { s.port with last := cell.marked }
         pins := { s.pins with readData := cell.byte } }) ∧
       (l.ring = [] → exec .portRead s = .next { s with
         port := { s.port with underrun := true }, pins := { s.pins with readData := 0 } })) ∧
     (¬(l.dir = .input ∧ l.state ∈ [.opened, .shutting, .lost] ∧ l.holder = none) →
       exec .portRead s = .next { s with
         port := { s.port with denied := true }, pins := { s.pins with readData := 0 } })) ∧
  (∀ (s : State) (l : Link) (v : Byte), s.windowShut = false → l = s.link s.port.link →
     ((l.dir = .output ∧ l.state ∈ [.opening, .opened] ∧ l.holder = none) →
       (l.ring.length < 256 * l.pages.length → exec (.portWrite v) s = .next { s with
         links := s.links.set s.port.link
           { l with ring := l.ring ++ [{ byte := v, marked := false }], messageOpen := true } }) ∧
       (256 * l.pages.length ≤ l.ring.length → exec (.portWrite v) s = .next { s with
         port := { s.port with overrun := true } })) ∧
     (¬(l.dir = .output ∧ l.state ∈ [.opening, .opened] ∧ l.holder = none) →
       exec (.portWrite v) s = .next { s with port := { s.port with denied := true } }))

/-- PORT-MARK marks the newest byte and closes the message, or is refused PORT-DENIED, NOTHING-TO-MARK or MARKS-FULL, in
that order of its checks (R149, R74). -/
def Obligations.PortMarkResult : Prop :=
  ∀ (s : State) (l : Link) (older : List Cell) (cell : Cell), s.windowShut = false → l = s.link s.port.link →
    (¬(l.dir = .output ∧ l.state ∈ [.opening, .opened] ∧ l.holder = none) → exec .portMark s = .next { s with
      window := { s.window with cmdErr := true, refuse := some .portDenied } }) ∧
    ((l.dir = .output ∧ l.state ∈ [.opening, .opened] ∧ l.holder = none) →
      (l.ring = [] → exec .portMark s = .next { s with
        window := { s.window with cmdErr := true, refuse := some .nothingToMark } }) ∧
      (l.ring = older ++ [cell] →
        (cell.marked = true ∨ (l.inFlight = true ∧ older = []) → exec .portMark s = .next { s with
          window := { s.window with cmdErr := true, refuse := some .nothingToMark } }) ∧
        (cell.marked = false → ¬(l.inFlight = true ∧ older = []) →
          (8 ≤ (l.ring.filter (·.marked)).length → exec .portMark s = .next { s with
            window := { s.window with cmdErr := true, refuse := some .marksFull } }) ∧
          ((l.ring.filter (·.marked)).length < 8 → exec .portMark s = .next { s with
            links := s.links.set s.port.link
              { l with ring := older ++ [{ cell with marked := true }], messageOpen := false }
            window := { s.window with cmdErr := false } }))))

/-- PORT-SKIP discards the oldest bytes up to and including the first marked one, or every byte when none is marked, and
clears LAST; it is refused PORT-DENIED where direction, state or holder forbid it (R150, R78). -/
def Obligations.PortSkipResult : Prop :=
  ∀ (s : State) (l : Link) (older newer : List Cell) (cell : Cell), s.windowShut = false → l = s.link s.port.link →
    ((l.dir = .input ∧ l.state ∈ [.opened, .shutting, .lost] ∧ l.holder = none) →
      (l.ring = older ++ cell :: newer → (∀ x ∈ older, x.marked = false) → cell.marked = true →
        exec .portSkip s = .next { s with
          links := s.links.set s.port.link
            { l with ring := newer, start := (l.start + (older.length + 1)) % (256 * l.pages.length) }
          port := { s.port with last := false }
          window := { s.window with cmdErr := false } }) ∧
      ((∀ x ∈ l.ring, x.marked = false) → exec .portSkip s = .next { s with
        links := s.links.set s.port.link
          { l with ring := [], start := (l.start + l.ring.length) % (256 * l.pages.length) }
        port := { s.port with last := false }
        window := { s.window with cmdErr := false } })) ∧
    (¬(l.dir = .input ∧ l.state ∈ [.opened, .shutting, .lost] ∧ l.holder = none) →
      exec .portSkip s = .next { s with window := { s.window with cmdErr := true, refuse := some .portDenied } })

/-! ### The job queue, the sequencer and the arbiter (chapters 5 and 7) -/

/-- The staged record passes POST's checks exactly when its kind is a code and the fields the kind uses are in range,
and POST copies every field (R84, R85, R179). POST is refused BAD-JOB or QUEUE-FULL, or puts the staged record at the
tail, after which an Idle arbiter decides (R85). -/
def Obligations.PostResult : Prop :=
  (∀ g : Settings,
     (g.postedJob.isSome = true ↔
       (1 ≤ g.jKind.toNat ∧ g.jKind.toNat ≤ 8) ∧
       (g.jKind.toNat ∈ [1, 2, 3, 4] → g.jLink.toNat < 12) ∧
       (g.jKind.toNat ∈ [1, 5, 6] → g.jStation.toNat < 14) ∧
       (g.jKind = 1 → 1 ≤ g.jPages.toNat ∧ g.jPages.toNat ≤ 8) ∧
       (g.jKind.toNat ∈ [3, 4] → 1 ≤ 256 * g.jLimitH.toNat + g.jLimitL.toNat)) ∧
     ∀ j ∈ g.postedJob, j.kind.code = g.jKind.toNat ∧ j.tag = g.jTag ∧ j.link = g.jLink ∧ j.station = g.jStation ∧
       j.channel.toNat = g.jChan.toNat % 8 ∧ (j.dir = .input ↔ 8 ≤ g.jChan.toNat) ∧ j.pages = g.jPages ∧
       j.limit.toNat = 256 * g.jLimitH.toNat + g.jLimitL.toNat) ∧
  (∀ (s : State) (j : Job), s.windowShut = false →
     (s.settings.postedJob = none → exec .post s = .next { s with
       window := { s.window with cmdErr := true, refuse := some .badJob } }) ∧
     (s.settings.postedJob = some j →
       (8 ≤ s.jobs.length → exec .post s = .next { s with
         window := { s.window with cmdErr := true, refuse := some .queueFull } }) ∧
       (s.jobs.length < 8 → exec .post s = .next (State.decide { s with
         jobs := s.jobs ++ [j], window := { s.window with cmdErr := false } }))))

/-- POP removes the head event and an Idle arbiter decides on the freed slot; on an empty queue it is refused
EVENTS-EMPTY (R136). PURGE leaves the Active job alone, sets PURGED to the number removed and QROOM at a fall from 8; an
Idle arbiter decides (R88, R87). INT is asserted exactly while an event whose class is enabled is held, in any position,
or the QROOM latch is set and enabled (R140, R139). -/
def Obligations.PopAndPurgeResult : Prop :=
  (∀ (s : State) (e : Event) (rest : List Event), s.windowShut = false →
     (s.events.held = [] → exec .pop s = .next { s with
       window := { s.window with cmdErr := true, refuse := some .eventsEmpty } }) ∧
     (s.events.held = e :: rest → exec .pop s = .next (State.decide { s with
       events := { s.events with held := rest }, window := { s.window with cmdErr := false } }))) ∧
  (∀ s : State, s.windowShut = false → s.QueueLaw →
     exec .purge s = .next (State.decide { s with
       jobs := s.jobs.take (bitVal s.active.isSome)
       events := { s.events with qroom := s.events.qroom || s.jobs.length == 8 }
       window := { s.window with cmdErr := false, purged := s.jobs.length - bitVal s.active.isSome } })) ∧
  (∀ s : State, s.intLine = true ↔
     (∃ e ∈ s.events.held, (match e.kind with
       | .job _ => s.settings.intJob
       | .claimed | .unclaimed => s.settings.intAsk
       | .moverDone | .moverStopped => s.settings.intMover) = true) ∨
     (s.events.qroom = true ∧ s.settings.intQroom = true))

/-- ABORT of a job in an exchange requests a CUT: the exchange is in Cut, cut by request if it had no outcome, the
sequencer is Cutting, and a PUT's byte is in flight no longer and stays in its ring (R111, R40, R75, log 11). -/
def Obligations.AbortCutsTheExchange : Prop :=
  ∀ (s : State) (e : Exchange) (j : Job) (x : JobContext) (rest : List Job), s.windowShut = false →
    s.seq.state = .running → s.exchange = some e → s.jobs = j :: rest → s.active = some x →
    s.bus.activity ≠ .pulsing →
    exec .abort s = .next { s with
      window := { s.window with cmdErr := false }
      exchange := some { e with phase := .cut, outcome := some (e.outcome.getD .cutByRequest) }
      bus := s.bus.inCut
      seq := { s.seq with state := .cutting }
      links := if e.kind = .put then s.links.set j.linkIndex { s.link j.linkIndex with inFlight := false } else s.links }

/-- ABORT in Holding, or between exchanges, of a job that holds no link in Opening or Shutting ends it ABORTED at once,
with the count and detail of its kind and no CUT; then the arbiter decides (R111, R113, R114). ABORT of an OPEN job that
is Holding closes its link and frees its pages (R113, R64, R67, log 30). ABORT in Holding or between exchanges of a
PROBE reports pace NONE, of a CENSUS the record of the visits that ended, and of a SHUT in Holding closes its link and
reports the bytes discarded (R113, R107, R109, R66, R111, log 30). The close of an OPEN's or a SHUT's link at an ABORT
stops a bound channel with LINK: its run ends, and its event and the job's join the queue in either order, or with its
byte move in progress it has the stop pending (R67, R166, R167, R142, logs 8 and 30). -/
def Obligations.AbortOutsideAnExchange : Prop :=
  (∀ (s : State) (j : Job) (x : JobContext) (rest : List Job), s.windowShut = false →
     (s.seq.state = .holding ∨ (s.seq.state = .running ∧ s.exchange = none)) → s.jobs = j :: rest → s.active = some x →
     s.jobs.length ≤ 8 →
     (j.kind = .put ∨ j.kind = .take → exec .abort s = .next (State.decide (State.afterJobEnd
       { s with window := { s.window with cmdErr := false } }
       { kind := .job j.kind, source := j.tag, result := .code .aborted, count := BitVec.ofNat 16 x.bytesMoved,
         detail := BitVec.ofNat 8 x.busyCount, flags := x.flagByte }))) ∧
     (j.kind = .status → exec .abort s = .next (State.decide (State.afterJobEnd
       { s with window := { s.window with cmdErr := false } }
       { kind := .job j.kind, source := j.tag, result := .code .aborted, count := 0, detail := x.statusByte.getD 0,
         flags := x.flagByte })))) ∧
  (∀ (s : State) (j : Job) (x : JobContext) (rest : List Job), s.windowShut = false → s.seq.state = .holding →
     s.jobs = j :: rest → s.active = some x → j.kind = .openLink → s.jobs.length ≤ 8 →
     (s.link j.linkIndex).holder = none →
     exec .abort s = .next (State.decide (State.afterJobEnd
       { s with
         window := { s.window with cmdErr := false }
         links := s.links.set j.linkIndex { s.link j.linkIndex with
           state := .closed, pages := [], start := 0, ring := [], inFlight := false, messageOpen := false, holder := none }
         freePages := allPages.filter fun p => p ∈ s.freePages ∨ p ∈ (s.link j.linkIndex).pages }
       { kind := .job .openLink, source := j.tag, result := .code .aborted, count := 0,
         detail := BitVec.ofNat 8 x.busyCount, flags := x.flagByte }))) ∧
  (∀ (s : State) (j : Job) (x : JobContext) (rest : List Job), s.windowShut = false →
     (s.seq.state = .holding ∨ (s.seq.state = .running ∧ s.exchange = none)) → s.jobs = j :: rest → s.active = some x →
     s.jobs.length ≤ 8 →
     ((j.kind = .probe ∧ x.probe = .none) ∨ j.kind = .census → exec .abort s = .next (State.decide (State.afterJobEnd
       { s with window := { s.window with cmdErr := false } } (j.endRecord x .aborted 0)))) ∧
     (j.kind = .shut → (s.link j.linkIndex).holder = none → exec .abort s = .next (State.decide (State.afterJobEnd
       (State.afterClose { s with window := { s.window with cmdErr := false } } j.linkIndex)
       (j.endRecord x .aborted (s.link j.linkIndex).ring.length))))) ∧
  (∀ (s : State) (j : Job) (x : JobContext) (rest : List Job) (c : Chan), s.windowShut = false → s.seq.state = .holding →
     s.jobs = j :: rest → s.active = some x → j.kind = .openLink ∨ j.kind = .shut → s.jobs.length ≤ 8 →
     (s.link j.linkIndex).holder = some c → (s.chan c).running = true →
     ∃ t, State.EndsStopping (State.afterClose { s with window := { s.window with cmdErr := false } } j.linkIndex) t c .link
         (j.endRecord x .aborted (s.link j.linkIndex).ring.length) ∧
       exec .abort s = .next t.decide)

/-- The arbiter while the sequencer is not Idle, while it has nothing to start, and while it finds no free slot (R90,
R92). -/
def Obligations.ArbiterStartsNothing : Prop :=
  ∀ s : State,
    (s.seq.state ≠ .idle → s.decide = s) ∧
    (s.seq.state = .idle → s.jobs = [] →
      (s.attention.latch = false ∨ s.settings.scan = false ∨ s.attention.mask = true) →
      s.decide = { s with seq := { s.seq with stall := false } }) ∧
    (s.seq.state = .idle → (s.jobs ≠ [] ∨
        (s.attention.latch = true ∧ s.settings.scan = true ∧ s.attention.mask = false)) →
      16 ≤ s.events.held.length + s.events.reserved.length →
      s.decide = { s with seq := { s.seq with stall := true } })

/-- The arbiter starts a scan when the latch is set, CFG.SCAN is set, the mask is clear, and the job-turn flag is clear
or no job waits: a slot is reserved, the latch is cleared, and the first visit's STATUS exchange begins (R90, R123,
R125, log 9, and log 7 for Clearing). A scan that starts with every station Absent and not asking ends at its start
UNCLAIMED with count 0, and masks an asserted line (R123, R124, R128; behind what the same event posted before it, log
31). With jobs queued and the job-turn flag clear, such a scan ends the same way, and the arbiter goes on with the head
job (R128, R91, R90, logs 20 and 31). -/
def Obligations.ArbiterStartsScan : Prop :=
  (∀ (s : State) (i : StationIndex), s.seq.state = .idle → s.bus.activity = .free →
     s.attention.latch = true → s.settings.scan = true → s.attention.mask = false →
     (s.seq.jobTurn = false ∨ s.jobs = []) → s.events.held.length + s.events.reserved.length < 16 →
     s.chooseVisit [] = some i →
     s.decide = { s with
       seq := { s.seq with state := .scanning, stall := false }
       events := { s.events with reserved := s.events.reserved ++ [.scan] }
       attention := { s.attention with
         latch := false
         scan := some { visited := [i], visits := 1, current := some i, claim := none } }
       exchange := some (Exchange.fresh .status i 0 .output false 0)
       bus := s.bus.inClearing s.settings }) ∧
  (∀ s : State, s.seq.state = .idle → s.jobs = [] → s.attention.latch = true → s.settings.scan = true →
     s.attention.mask = false → s.events.held.length + s.events.reserved.length < 16 →
     Holder.scan ∉ s.events.reserved →
     (∀ i : StationIndex, (s.station i).askPending = false ∧ (s.station i).presence = .absent) →
     s.decide = { s with
       seq := { s.seq with state := .idle, stall := false, jobTurn := true }
       events := { s.events with
         held := s.events.held ++ [
           { kind := .unclaimed, source := BitVec.ofNat 8 s.attention.rotation.val, result := .code .done, count := 0,
             detail := 0, flags := 0 }] }
       attention := { s.attention with latch := false, mask := s.pins.askLine, scan := none } }) ∧
  (∀ s : State, s.seq.state = .idle → s.jobs ≠ [] → s.seq.jobTurn = false → s.attention.latch = true →
     s.settings.scan = true → s.attention.mask = false → s.events.held.length + s.events.reserved.length < 16 →
     Holder.scan ∉ s.events.reserved →
     (∀ i : StationIndex, (s.station i).askPending = false ∧ (s.station i).presence = .absent) →
     s.decide = State.decide { s with
       seq := { s.seq with state := .idle, stall := false, jobTurn := true }
       events := { s.events with
         held := s.events.held ++ [
           { kind := .unclaimed, source := BitVec.ofNat 8 s.attention.rotation.val, result := .code .done, count := 0,
             detail := 0, flags := 0 }] }
       attention := { s.attention with latch := false, mask := s.pins.askLine, scan := none } })

/-- The arbiter starts a STATUS, a PROBE or a CENSUS at the head of the queue: a slot is reserved, the job-turn flag is
cleared, the job's context is fresh and its exchange begins, a census's with station 0 (R90, R93, R106, R107, R108, R21,
R22, log 7). The arbiter starts an OPEN at the head of the queue whose claim passes: the link takes the endpoint and the
lowest-numbered free pages, is Opening and empty, and its OPEN exchange begins (R63, R60, R99, R21, log 7). The arbiter
starts a PUT or a TAKE whose data claim passes: its first exchange begins with the length and the pace request of the
figures as they stand; and a BUSRESET, whose pulse begins at once with the length RST-PULSE holds (R79, R102, R104, R22,
R110, R17, R93, log 7). The arbiter starts a SHUT of an Open link: the link is Shutting with its ring, pages and total,
a bound channel loses its hold and is stopped with SHUT, at once or pending the move in progress, and the SHUT exchange
begins (R65, R100, R166, log 7; behind what the same event posted before it, log 31). -/
def Obligations.ArbiterStartsJob : Prop :=
  (∀ (s : State) (j : Job), s.JobMayStart j → s.bus.activity = .free →
     (j.kind = .status ∨ j.kind = .probe ∨ j.kind = .census) →
     s.decide = { s.afterStart with
       exchange := some (Exchange.fresh (if j.kind = .probe then .probe else .status)
         (if j.kind = .census then 0 else j.stationIndex) 0 .output false
         (if j.kind = .probe ∧ s.settings.clocked = true then 2 else 0))
       bus := s.bus.inClearing s.settings }) ∧
  (∀ (s : State) (j : Job) (rest : List Job), s.seq.state = .idle → s.bus.activity = .free → s.jobs = j :: rest →
     (s.seq.jobTurn = true ∨ s.attention.latch = false) → s.events.held.length + s.events.reserved.length < 16 →
     j.kind = .openLink → (s.link j.linkIndex).state = .closed → j.pages.toNat ≤ s.freePages.length →
     (∀ i : LinkIndex, i ≠ j.linkIndex → (s.link i).state = .closed ∨
       ¬((s.link i).station = j.stationIndex ∧ (s.link i).channel = j.channel ∧ (s.link i).dir = j.dir)) →
     s.decide = { s with
       seq := { s.seq with state := .running, stall := false, jobTurn := false }
       events := { s.events with reserved := s.events.reserved ++ [.job] }
       active := some JobContext.fresh
       links := s.links.set j.linkIndex { s.link j.linkIndex with
         state := .opening, station := j.stationIndex, channel := j.channel, dir := j.dir
         pages := s.freePages.take j.pages.toNat, start := 0, ring := [], inFlight := false, messageOpen := false
         holder := none, total := 0 }
       freePages := s.freePages.drop j.pages.toNat
       exchange := some (Exchange.fresh .openChannel j.stationIndex j.channel j.dir false 0)
       bus := s.bus.inClearing s.settings }) ∧
  (∀ (s : State) (j : Job) (r : Exchange), s.JobMayStart j → s.bus.activity = .free →
     (j.kind = .put ∨ j.kind = .take → s.NextExchange j JobContext.fresh r →
       s.decide = { s.afterStart with exchange := some r, bus := s.bus.inClearing s.settings }) ∧
     (j.kind = .busReset → s.decide = { s.afterStart with
       seq := { s.seq with state := .resetting, stall := false, jobTurn := false }
       bus := { s.bus with activity := .pulsing, timer := none, pulseMs := s.settings.rstPulse } })) ∧
  (∀ (s base : State) (j : Job) (c : Chan), s.JobMayStart j → s.bus.activity = .free → j.kind = .shut →
     (s.link j.linkIndex).state = .opened →
     base = { s.afterStart with
       links := s.links.set j.linkIndex { s.link j.linkIndex with state := .shutting, holder := none }
       exchange := some (Exchange.fresh .shut (s.link j.linkIndex).station (s.link j.linkIndex).channel
         (s.link j.linkIndex).dir false 0)
       bus := s.bus.inClearing s.settings } →
     ((s.link j.linkIndex).holder = none → s.decide = base) ∧
     ((s.link j.linkIndex).holder = some c → (s.chan c).running = true →
       (s.moving c = false → s.decide = base.afterRunEnd c .shut) ∧
       (s.moving c = true → s.decide = { base with
         mover := s.mover.setChan c { s.chan c with stopPending := some ((s.chan c).stopPending.getD .shut) } })))

/-- An OPEN whose claim fails ends at its start event with LINK-STATE, LINK-CONFLICT or NO-PAGES, the first that holds,
and leaves the links and the pool as they were; the arbiter goes on with the rest of the queue (R63, R99, R115, log 20;
behind what the same event posted before it, log 31). A PUT or TAKE whose data claim fails ends at its start with the
claim's answer, and a PUT that finds its ring empty ends DONE (R79, R102, R104, log 31). A SHUT of a link that is
neither Open nor Lost ends LINK-STATE with count 0; of a Lost link with no channel bound it closes the link and ends
DONE with LOCAL and the bytes discarded (R65, R67, R100, R115, logs 20, 30 and 31). The local close of a Lost link stops
a bound channel with SHUT: its run ends, and its event and the job's join the queue in either order, or with its byte
move in progress it has the stop pending (R65, R67, R166, R167, R142, logs 8, 30 and 31). -/
def Obligations.JobEndsAtItsStart : Prop :=
  (∀ (s : State) (j : Job) (k : LinkIndex) (r : JobResult), s.JobMayStart j → s.jobs.length ≤ 8 → s.exchange = none →
     s.active = none → Holder.job ∉ s.events.reserved → j.kind = .openLink →
     (((s.link j.linkIndex).state ≠ .closed ∧ r = .linkState) ∨
       ((s.link j.linkIndex).state = .closed ∧ k ≠ j.linkIndex ∧ (s.link k).state ≠ .closed ∧
         (s.link k).station = j.stationIndex ∧ (s.link k).channel = j.channel ∧ (s.link k).dir = j.dir ∧
         r = .linkConflict) ∨
       ((s.link j.linkIndex).state = .closed ∧
         (∀ i : LinkIndex, i ≠ j.linkIndex → (s.link i).state = .closed ∨
           ¬((s.link i).station = j.stationIndex ∧ (s.link i).channel = j.channel ∧ (s.link i).dir = j.dir)) ∧
         s.freePages.length < j.pages.toNat ∧ r = .noPages)) →
     s.decide = State.decide (State.afterJobEnd
       { s with seq := { s.seq with stall := false, jobTurn := false } }
       { kind := .job .openLink, source := j.tag, result := .code r, count := 0, detail := 0, flags := 0 })) ∧
  (∀ (s base : State) (j : Job) (l : Link) (r : JobResult), s.JobMayStart j → s.jobs.length ≤ 8 → s.exchange = none →
     s.active = none → Holder.job ∉ s.events.reserved → l = s.link j.linkIndex →
     base = { s with seq := { s.seq with stall := false, jobTurn := false } } →
     (j.kind = .put ∨ j.kind = .take → l.ClaimFails j.kind r →
       s.decide = State.decide (base.afterJobEnd (j.endRecord JobContext.fresh r 0))) ∧
     (j.kind = .put → l.state = .opened → l.dir = .output → l.ring = [] →
       s.decide = State.decide (base.afterJobEnd (j.endRecord JobContext.fresh .done 0))) ∧
     (j.kind = .shut → l.state ∈ [.closed, .opening, .shutting] →
       s.decide = State.decide (base.afterJobEnd (j.endRecord JobContext.fresh .linkState 0))) ∧
     (j.kind = .shut → l.state = .lost → l.holder = none →
       s.decide = State.decide (State.afterJobEnd (base.afterClose j.linkIndex)
         (j.endRecord { JobContext.fresh with localClose := true } .done l.ring.length)))) ∧
  (∀ (s base : State) (j : Job) (c : Chan), s.JobMayStart j → s.jobs.length ≤ 8 → s.exchange = none →
     s.active = none → Holder.job ∉ s.events.reserved →
     base = { s with seq := { s.seq with stall := false, jobTurn := false } } →
     j.kind = .shut → (s.link j.linkIndex).state = .lost → (s.link j.linkIndex).holder = some c → (s.chan c).running = true →
     ∃ t, State.EndsStopping (base.afterClose j.linkIndex) t c .shut
         (j.endRecord { JobContext.fresh with localClose := true } .done (s.link j.linkIndex).ring.length) ∧
       s.decide = t.decide)

/-- A decision settles the arbiter: afterwards the sequencer is not Idle, or no start is named and it is not stalled, or
a start is named, no slot is free and it is stalled (R90, R92, log 20). -/
def Obligations.DecisionSettles : Prop :=
  ∀ s : State,
    s.decide.seq.state ≠ .idle ∨
      (s.decide.namedStart = none ∧ s.decide.seq.stall = false) ∨
      (s.decide.namedStart.isSome = true ∧ s.decide.freeSlots = 0 ∧ s.decide.seq.stall = true)

/-- The next exchange of a PUT, at its next step or at the end of its busy delay, carries the least of 255, the limit
less the bytes moved, the bytes held and the distance to the first mark; a PUT that finds its ring empty ends DONE, and
one that fails its claim ends with the claim's answer (R96, R98, R102, R79, log 7). At its next step, and at the end of
the busy delay, a TAKE presents its data claim again: the exchange carries the least of 255, the limit less the bytes
moved and the free space, and a failing claim ends the job with the claim's answer, but for RING-FULL at a next step,
which ends it DONE (R96, R98, R104, R79, logs 7 and 18). The end of the busy delay of a Holding OPEN, SHUT, STATUS or
PROBE re-enters Running and begins the repeat exchange, built from the state at this event: a PROBE reads CFG.CLOCKED
again (R96, R99, R100, R106, R107, log 7). -/
def Obligations.DataJobsPresentTheirClaim : Prop :=
  (∀ (s : State) (c : Instr) (j : Job) (x : JobContext) (rest : List Job) (l : Link) (r : Exchange) (f : JobResult),
     ((c = .nextStep ∧ s.seq.state = .running) ∨ (c = .busyDelayEnd ∧ s.seq.state = .holding)) → s.exchange = none →
     s.bus.activity = .free → s.jobs = j :: rest → s.active = some x → s.jobs.length ≤ 8 → j.kind = .put →
     l = s.link j.linkIndex →
     (s.NextExchange j x r → exec c s = .next { s with
       exchange := some r, bus := s.bus.inClearing s.settings, seq := { s.seq with state := .running } }) ∧
     (l.state = .opened → l.dir = .output → l.ring = [] →
       exec c s = .next (State.decide (s.afterJobEnd (j.endRecord x .done 0)))) ∧
     (l.ClaimFails .put f → exec c s = .next (State.decide (s.afterJobEnd (j.endRecord x f 0))))) ∧
  (∀ (s : State) (c : Instr) (j : Job) (x : JobContext) (rest : List Job) (l : Link) (r : Exchange) (f : JobResult),
     ((c = .nextStep ∧ s.seq.state = .running) ∨ (c = .busyDelayEnd ∧ s.seq.state = .holding)) → s.exchange = none →
     s.bus.activity = .free → s.jobs = j :: rest → s.active = some x → s.jobs.length ≤ 8 → j.kind = .take →
     l = s.link j.linkIndex →
     (s.NextExchange j x r → exec c s = .next { s with
       exchange := some r, bus := s.bus.inClearing s.settings, seq := { s.seq with state := .running } }) ∧
     (l.ClaimFails .take f → exec c s = .next (State.decide (s.afterJobEnd
       (j.endRecord x (if c = .nextStep ∧ f = .ringFull then .done else f) 0))))) ∧
  (∀ (s : State) (j : Job) (x : JobContext) (rest : List Job) (r : Exchange), s.seq.state = .holding →
     s.bus.activity = .free → s.jobs = j :: rest → s.active = some x → j.kind ∈ [.openLink, .shut, .status, .probe] →
     s.NextExchange j x r →
     exec .busyDelayEnd s = .next { s with
       exchange := some r, bus := s.bus.inClearing s.settings, seq := { s.seq with state := .running } })

/-! ### The attention unit (chapter 6) -/

/-- The choice of the next visit: an unvisited station asking, or if none asks an unvisited one Present or Unknown, and
of these the first in rotation order from the rotation start; none when there is none (R124). -/
def Obligations.VisitChoiceOrder : Prop :=
  ∀ (s : State) (visited : List StationIndex),
    (∀ i ∈ s.chooseVisit visited, i ∉ visited ∧
      ((s.station i).askPending = true ∨
        ((s.station i).presence ≠ .absent ∧ ∀ k : StationIndex, k ∉ visited → (s.station k).askPending = false)) ∧
      ∀ k : StationIndex, k ∉ visited →
        ((s.station k).askPending = true ∨
          ((s.station i).askPending = false ∧ (s.station k).presence ≠ .absent)) →
        (i.val + 14 - s.attention.rotation.val) % 14 ≤ (k.val + 14 - s.attention.rotation.val) % 14) ∧
    (s.chooseVisit visited = none ↔
      ∀ k : StationIndex, k ∉ visited → (s.station k).askPending = false ∧ (s.station k).presence = .absent)

/-- The next step of a census begins the STATUS exchange of its next visit (R98, R108, log 7). The next step of a scan
begins the visit that R124 names (R125, log 9). A census visit ends: COMPLETE or BUSY at its handback and a failure at
its CUT's completion record the station present, and NO-STATION records it not present; a failure gives the census error
report. Before visit 13 the census goes on with the next visit, and after it the job ends DONE with its count and record
(R108, R109, R52, R46). The completion of the CUT of a census visit that an ABORT met: a visit cut by the ABORT is
recorded not present, one that had failed before it is recorded present with its census error report, and the job ends
ABORTED (R109, R111, R52). -/
def Obligations.NextVisitBegins : Prop :=
  (∀ (s : State) (j : Job) (x : JobContext) (rest : List Job), s.seq.state = .running → s.exchange = none →
     s.bus.activity = .free → s.jobs = j :: rest → s.active = some x → j.kind = .census →
     exec .nextStep s = .next { s with
       exchange := some (Exchange.fresh .status x.visit 0 .output false 0), bus := s.bus.inClearing s.settings }) ∧
  (∀ (s : State) (x : Scan) (i : StationIndex), s.seq.state = .scanning → s.exchange = none → s.bus.activity = .free →
     s.attention.scan = some x → s.chooseVisit x.visited = some i →
     exec .nextStep s = .next { s with
       attention := { s.attention with
         scan := some { x with visited := x.visited ++ [i], visits := x.visits + 1, current := some i } }
       exchange := some (Exchange.fresh .status i 0 .output false 0)
       bus := s.bus.inClearing s.settings }) ∧
  (∀ (s : State) (c : Instr) (e : Exchange) (a : Answer) (o : ExchangeOutcome) (j : Job) (x y : JobContext)
     (rest : List Job) (tbl : Vector Station 14),
     s.exchange = some e → e.kind = .status → s.seq.state = .running → s.bus.waiting = none → s.jobs = j :: rest →
     s.jobs.length ≤ 8 → s.active = some x → j.kind = .census → e.framesDone = 0 → e.markReceived = false →
     e.testResult = none →
     ((c = .handback ∧ s.bus.activity = .handback ∧ e.answer = some a ∧ (a.code = 0 ∨ a.code = 1) ∧ tbl = s.stations ∧
         y = { x.withExchange e with census := x.census ||| (1 <<< e.station.val) }) ∨
       (c = .answerTimeout ∧ s.bus.activity = .turnaround ∧ s.bus.timing .answer = true ∧
         tbl = s.stations.set e.station { s.station e.station with presence := .absent } ∧ y = x.withExchange e) ∨
       (c = .cutCompletion ∧ s.bus.activity = .cutting ∧ e.outcome = some o ∧
         o ∈ [.frameError, .frameTimeout, .turnError, .protocolError] ∧
         tbl = s.stations.set e.station { s.station e.station with presence := .present } ∧
         y = { x.withExchange e with census := x.census ||| (1 <<< e.station.val) })) →
     (x.visit ≠ 13 → exec c s = .next { s with
       exchange := none, bus := s.bus.inFree, stations := tbl, active := some { y with visit := x.visit + 1 } }) ∧
     (x.visit = 13 → exec c s = .next (State.decide (State.afterJobEnd
       { s with bus := s.bus.inFree, stations := tbl } (j.endRecord y .done 0))))) ∧
  (∀ (s : State) (e : Exchange) (o : ExchangeOutcome) (j : Job) (x : JobContext) (rest : List Job),
     s.exchange = some e → s.bus.activity = .cutting → s.seq.state = .cutting → s.bus.waiting = none →
     s.jobs = j :: rest → s.jobs.length ≤ 8 → s.active = some x → j.kind = .census → e.outcome = some o →
     (o = .cutByRequest → exec .cutCompletion s = .next (State.decide (State.afterJobEnd
       { s with bus := s.bus.inFree } (j.endRecord x .aborted 0)))) ∧
     (o ∈ [.frameError, .frameTimeout, .turnError, .protocolError] →
       exec .cutCompletion s = .next (State.decide (State.afterJobEnd
         { s with
           bus := s.bus.inFree
           stations := s.stations.set e.station { s.station e.station with presence := .present } }
         (j.endRecord { x with census := x.census ||| (1 <<< e.station.val) } .aborted 0)))))

/-- ASK seen asserted sets the latch when CFG.SCAN is set, the mask is clear and the unit is watching; ASK seen released
clears the mask and keeps the latch; each is a decision of an Idle arbiter (R119, R120, R121, R90). ASK-REARM is always
taken: while watching it clears the mask and applies R119, and an Idle arbiter decides; while scanning it changes
nothing (R122). -/
def Obligations.AskLineAndRearm : Prop :=
  (∀ s : State,
     (s.pins.askLine = false → exec .askLineAsserted s = .next (State.decide { s with
       pins := { s.pins with askLine := true }
       attention := { s.attention with
         latch := s.attention.latch || (s.settings.scan && !s.attention.mask && s.attention.scan.isNone) } })) ∧
     exec .askLineReleased s = .next (State.decide { s with
       pins := { s.pins with askLine := false }, attention := { s.attention with mask := false } })) ∧
  (∀ s : State, s.windowShut = false →
     (s.attention.scan.isSome = true → exec .askRearm s = .next { s with window := { s.window with cmdErr := false } }) ∧
     (s.attention.scan = none → exec .askRearm s = .next (State.decide { s with
       window := { s.window with cmdErr := false }
       attention := { s.attention with
         mask := false, latch := s.attention.latch || (s.pins.askLine && s.settings.scan) } })))

/-- The handback of a claiming visit ends the scan: the rotation start moves past the claimant, the CLAIMED event is
posted, the job-turn flag is set, the sequencer is Idle, R119 is applied and the arbiter decides (R127, R131). When a
TURN-ERROR follows the claim, the scan ends so at the CUT's completion, with the result TURN-ERROR (R126, R127). A scan
visit that ends without a claim, at a COMPLETE or BUSY handback, at an answer timeout, or at a failure's CUT with no
census error report: while a station is left to visit the scan goes on, with the next visit counted when its exchange
begins and not yet here (log 9), and else it ends UNCLAIMED with its visits, the mask set if the line is asserted, the
job-turn flag set and the rotation start kept (R124, R125, R128, R121, R46, R52). -/
def Obligations.ClaimingVisitEndsScan : Prop :=
  (∀ (s : State) (x : Scan) (e : Exchange) (a : Answer) (i : StationIndex) (v : Byte), s.seq.state = .scanning →
     s.bus.activity = .handback → s.bus.waiting = none → s.exchange = some e → e.kind = .status → e.answer = some a →
     a.code = 0 → s.attention.scan = some x → x.claim = some (i, v) →
     exec .handback s = .next (State.decide { s with
       bus := s.bus.inFree
       exchange := none
       attention := { s.attention with
         rotation := i + 1
         scan := none
         latch := s.attention.latch || (s.pins.askLine && s.settings.scan && !s.attention.mask) }
       seq := { s.seq with state := .idle, jobTurn := true }
       events := { s.events with
         held := s.events.held ++ [
           { kind := .claimed, source := BitVec.ofNat 8 i.val, result := .code .done, count := BitVec.ofNat 16 x.visits,
             detail := v, flags := 0 }]
         reserved := s.events.reserved.erase .scan } })) ∧
  (∀ (s : State) (x : Scan) (e : Exchange) (i : StationIndex) (v : Byte), s.seq.state = .scanning →
     s.bus.activity = .cutting → s.bus.waiting = none → s.exchange = some e → e.outcome = some .turnError →
     s.attention.scan = some x → x.claim = some (i, v) →
     exec .cutCompletion s = .next (State.decide { s with
       bus := s.bus.inFree
       exchange := none
       attention := { s.attention with
         rotation := i + 1
         scan := none
         latch := s.attention.latch || (s.pins.askLine && s.settings.scan && !s.attention.mask) }
       seq := { s.seq with state := .idle, jobTurn := true }
       events := { s.events with
         held := s.events.held ++ [
           { kind := .claimed, source := BitVec.ofNat 8 i.val, result := .code .turnError
             count := BitVec.ofNat 16 x.visits, detail := v, flags := 0 }]
         reserved := s.events.reserved.erase .scan } })) ∧
  (∀ (s base : State) (c : Instr) (x : Scan) (e : Exchange) (a : Answer) (o : ExchangeOutcome) (tbl : Vector Station 14),
     s.seq.state = .scanning → s.bus.waiting = none → s.exchange = some e → e.kind = .status →
     s.attention.scan = some x → x.claim = none →
     ((c = .handback ∧ s.bus.activity = .handback ∧ e.answer = some a ∧ (a.code = 0 ∨ a.code = 1) ∧ tbl = s.stations) ∨
       (c = .answerTimeout ∧ s.bus.activity = .turnaround ∧ s.bus.timing .answer = true ∧
         tbl = s.stations.set e.station { s.station e.station with presence := .absent }) ∨
       (c = .cutCompletion ∧ s.bus.activity = .cutting ∧ e.outcome = some o ∧
         o ∈ [.frameError, .frameTimeout, .turnError, .protocolError] ∧ tbl = s.stations)) →
     base = { s with
       exchange := none
       bus := s.bus.inFree
       stations := tbl
       attention := { s.attention with scan := some { x with current := none } } } →
     ((∃ i : StationIndex, i ∉ x.visited ∧ ((base.station i).askPending = true ∨ (base.station i).presence ≠ .absent)) →
       exec c s = .next base) ∧
     ((∀ i : StationIndex, i ∉ x.visited → (base.station i).askPending = false ∧ (base.station i).presence = .absent) →
       exec c s = .next (State.decide { base with
         attention := { s.attention with mask := s.attention.mask || s.pins.askLine, scan := none }
         seq := { s.seq with state := .idle, jobTurn := true }
         events := { s.events with
           held := s.events.held ++ [
             { kind := .unclaimed, source := BitVec.ofNat 8 s.attention.rotation.val, result := .code .done
               count := BitVec.ofNat 16 x.visits, detail := 0, flags := 0 }]
           reserved := s.events.reserved.erase .scan } })))

/-! ### The host memory mover (chapter 9) -/

/-- MOVER-START is refused with the first of its six checks that fails, and changes nothing else (R157). A MOVER-START
that passes its checks reserves a slot, holds the link and makes the channel Running with moved 0; under a standing
grant a byte move begins with it (R157, R80, R134, R160, log 13). -/
def Obligations.MoverStartResult : Prop :=
  (∀ (s : State) (c : Chan) (l : Link) (r : Reason), s.windowShut = false → l = s.link (s.chan c).link →
     (((s.chan c).running = true ∧ r = .channelRunning) ∨
       ((s.chan c).running = false ∧ (s.chan c).count = 0 ∧ r = .zeroCount) ∨
       ((s.chan c).running = false ∧ (s.chan c).count ≠ 0 ∧
         (((l.dir = .input ∧ l.state ∉ [.opened, .shutting, .lost]) ∨
             (l.dir = .output ∧ l.state ∉ [.opening, .opened])) ∧ r = .linkStateBad ∨
           ((l.dir = .input ∧ l.state ∈ [.opened, .shutting, .lost]) ∨
             (l.dir = .output ∧ l.state ∈ [.opening, .opened])) ∧
           (l.holder ≠ none ∧ r = .linkBusy ∨
             l.holder = none ∧
             (l.dir = .output ∧ (s.chan c).mode = true ∧ 8 ≤ (l.ring.filter (·.marked)).length ∧ r = .marksFull ∨
               ¬(l.dir = .output ∧ (s.chan c).mode = true ∧ 8 ≤ (l.ring.filter (·.marked)).length) ∧
               16 ≤ s.events.held.length + s.events.reserved.length ∧ r = .noEventSlot))))) →
     exec (.moverStart c) s = .next { s with window := { s.window with cmdErr := true, refuse := some r } }) ∧
  (∀ (s : State) (c : Chan) (l : Link), s.windowShut = false → l = s.link (s.chan c).link →
     (s.chan c).running = false → (s.chan c).count ≠ 0 →
     ((l.dir = .input ∧ l.state ∈ [.opened, .shutting, .lost]) ∨ (l.dir = .output ∧ l.state ∈ [.opening, .opened])) →
     l.holder = none → (l.dir = .output → (s.chan c).mode = true → (l.ring.filter (·.marked)).length < 8) →
     s.events.held.length + s.events.reserved.length < 16 →
     exec (.moverStart c) s = .next (State.nextMove { s with
       window := { s.window with cmdErr := false }
       links := s.links.set (s.chan c).link { l with holder := some c }
       mover := s.mover.setChan c { s.chan c with running := true, dir := l.dir, moved := 0, stopPending := none }
       events := { s.events with reserved := s.events.reserved ++ [.channel c] } }))

/-- MOVER-STOP is refused CHANNEL-IDLE on an Idle channel; with no move of the channel in progress it ends the run with
COMMAND; else COMMAND waits as the stop pending, unless one waits already (R166, R167, R132). -/
def Obligations.MoverStopResult : Prop :=
  ∀ (s : State) (c : Chan), s.windowShut = false →
    ((s.chan c).running = false → exec (.moverStop c) s = .next { s with
      window := { s.window with cmdErr := true, refuse := some .channelIdle } }) ∧
    ((s.chan c).running = true → s.moving c = false → exec (.moverStop c) s = .next (State.afterRunEnd
      { s with window := { s.window with cmdErr := false } } c .command)) ∧
    ((s.chan c).running = true → s.moving c = true → exec (.moverStop c) s = .next { s with
      window := { s.window with cmdErr := false }
      mover := s.mover.setChan c { s.chan c with stopPending := some ((s.chan c).stopPending.getD .command) } })

/-- At a grant the channel with work is served, and of two with work the one not served last: an OUT channel begins its
host read, an IN channel pops its link's oldest byte. A withdrawal begins no move and breaks none, and a grant that
comes back while a move is still in progress begins no second one (R161, R160, R162, log 13). BREQ is asserted exactly
while a byte move is in progress, or a Running channel with no stop pending has work: a byte in its IN ring, or a free
byte in its OUT ring (R159, R158). -/
def Obligations.GrantServesTheOtherChannel : Prop :=
  (∀ (s : State) (c : Chan) (l : Link) (cell : Cell) (rest : List Cell),
     (s.mover.move = none →
       (s.hasWork .a = false → s.hasWork .b = false →
         exec .bgntGiven s = .next { s with pins := { s.pins with bgnt := true } }) ∧
       (s.hasWork c = true → (s.hasWork c.other = false ∨ s.mover.lastServed = c.other) →
         ((s.chan c).dir = .output → exec .bgntGiven s = .next { s with
           pins := { s.pins with bgnt := true }
           mover := { s.mover with lastServed := c, move := some { chan := c, popped := none } } }) ∧
         ((s.chan c).dir = .input → l = s.link (s.chan c).link → l.dir = .input →
           l.state ∈ [.opened, .shutting, .lost] → l.holder = some c → l.ring = cell :: rest →
           exec .bgntGiven s = .next { s with
             pins := { s.pins with bgnt := true }
             links := s.links.set (s.chan c).link { l with ring := rest, start := (l.start + 1) % (256 * l.pages.length) }
             mover := { s.mover with lastServed := c, move := some { chan := c, popped := some cell } } }))) ∧
     (s.mover.move ≠ none → exec .bgntGiven s = .next { s with pins := { s.pins with bgnt := true } }) ∧
     exec .bgntWithdrawn s = .next { s with pins := { s.pins with bgnt := false } }) ∧
  (∀ s : State, s.breqLine = true ↔
     (s.mover.move ≠ none ∨
       ∃ c ∈ [Chan.a, Chan.b], (s.chan c).running = true ∧ (s.chan c).stopPending = none ∧
         (((s.chan c).dir = .input ∧ (s.link (s.chan c).link).ring ≠ []) ∨
           ((s.chan c).dir = .output ∧
             (s.link (s.chan c).link).ring.length < 256 * (s.link (s.chan c).link).pages.length))))

/-- The completion of an IN channel's move writes the popped byte at the host address and counts it; the run ends with a
pending stop, else MARK for a marked byte under STOP-AT-MARK, else COUNT at count 0 (R160, R163, R165, R166, R167, R132,
logs 13 and 14). The completion of an OUT channel's move pushes the byte read, marked when it is the final one under
MARK-AT-END, and counts it; a refused push drops the byte and counts nothing; a pending stop, else COUNT, ends the run
(R160, R164, R165, logs 13, 14 and 15). -/
def Obligations.ByteMoveCompletionResult : Prop :=
  (∀ (s : State) (c : Chan) (cell : Cell) (v : Byte) (r : StopReason),
     s.mover.move = some { chan := c, popped := some cell } → (s.chan c).dir = .input →
     ((s.chan c).stopPending = none → ¬((s.chan c).mode = true ∧ cell.marked = true) → (s.chan c).count ≠ 1 →
       exec (.byteMoveCompletion v) s = .next (State.nextMove (State.afterCounted
         { s with pins := { s.pins with hostWrite := some { addr := (s.chan c).addr, data := cell.byte } } } c))) ∧
     (((s.chan c).stopPending = some r ∨
         ((s.chan c).stopPending = none ∧ (s.chan c).mode = true ∧ cell.marked = true ∧ r = .mark) ∨
         ((s.chan c).stopPending = none ∧ ¬((s.chan c).mode = true ∧ cell.marked = true) ∧ (s.chan c).count = 1 ∧
           r = .count)) →
       exec (.byteMoveCompletion v) s = .next (State.nextMove (State.afterRunEnd (State.afterCounted
         { s with pins := { s.pins with hostWrite := some { addr := (s.chan c).addr, data := cell.byte } } } c) c r)))) ∧
  (∀ (s : State) (c : Chan) (l : Link) (v : Byte) (r : StopReason),
     s.mover.move = some { chan := c, popped := none } → (s.chan c).dir = .output → l = s.link (s.chan c).link →
     ((l.dir = .output ∧ l.state ∈ [.opening, .opened] ∧ l.holder = some c ∧ l.ring.length < 256 * l.pages.length) →
       ((s.chan c).stopPending = none → (s.chan c).count ≠ 1 →
         exec (.byteMoveCompletion v) s = .next (State.nextMove (State.afterCounted
           { s with
             links := s.links.set (s.chan c).link { l with
               ring := l.ring ++ [{ byte := v, marked := false }], messageOpen := true } } c))) ∧
       (((s.chan c).stopPending = some r ∨ ((s.chan c).stopPending = none ∧ (s.chan c).count = 1 ∧ r = .count)) →
         exec (.byteMoveCompletion v) s = .next (State.nextMove (State.afterRunEnd (State.afterCounted
           { s with
             links := s.links.set (s.chan c).link { l with
               ring := l.ring ++ [{ byte := v, marked := (s.chan c).mode && (s.chan c).count == 1 }]
               messageOpen := !((s.chan c).mode && (s.chan c).count == 1) } } c) c r)))) ∧
     (¬(l.dir = .output ∧ l.state ∈ [.opening, .opened] ∧ l.holder = some c ∧ l.ring.length < 256 * l.pages.length) →
       ((s.chan c).stopPending = some r → exec (.byteMoveCompletion v) s = .next (State.nextMove (State.afterRunEnd
         { s with mover := { s.mover with move := none } } c r))) ∧
       ((s.chan c).stopPending = none → exec (.byteMoveCompletion v) s = .next (State.nextMove
         { s with mover := { s.mover with move := none } }))))

/-! ### Frames, slots and exchanges (chapters 1 to 3) -/

/-- The ten bits of every frame hold an odd number of 1 bits and carry its data and mark; changing any one of them makes
the parity bad (R3). -/
def Obligations.FrameParity : Prop :=
  ∀ (f : Frame) (i : Fin 10),
    goodParity f.bits = true ∧ frameOfBits f.bits = f ∧ goodParity (f.bits ^^^ (1#10 <<< i.val)) = false

/-- The three header frames of an exchange go out in order, each after the ACK of the one before, in the layout of R177;
the ACK of the third begins the turnaround under the answer timer (R13, R15, R23, R177, logs 6, 7 and 13). A NAK read or
given within the frame limit raises the NAK count and keeps the frame; a slot with no pattern is clocked again under the
timer already running; the tenth bit of the answer stops the answer timer and the slot runs under the frame timer (R9,
R10, R11, R12, R13, logs 6 and 25). -/
def Obligations.HeaderFramesAndSlots : Prop :=
  (∀ (s : State) (e : Exchange), s.exchange = some e →
     (s.bus.activity = .clearing → exec .linesReleased s = .next { s with
       bus := { s.bus with
         activity := .header, headerIndex := 0, nakCount := 0, timer := some { timer := .frame, units := s.settings.tFrame }
         frame := {
           data := BitVec.ofNat 8 (128 * bitVal e.paceRequest + 16 * e.kind.code + e.station.val), mark := false } } }) ∧
     (s.bus.activity = .header → s.bus.headerIndex = 0 → exec .ackRead s = .next (State.nextMove { s with
       bus := { s.bus with
         headerIndex := 1, nakCount := 0, timer := some { timer := .frame, units := s.settings.tFrame }
         frame := { data := BitVec.ofNat 8 (8 * bitVal (dirBit e.dir) + e.channel.toNat), mark := false } } })) ∧
     (s.bus.activity = .header → s.bus.headerIndex = 1 → exec .ackRead s = .next (State.nextMove { s with
       bus := { s.bus with
         headerIndex := 2, nakCount := 0, timer := some { timer := .frame, units := s.settings.tFrame }
         frame := { data := e.length, mark := true } } })) ∧
     (s.bus.activity = .header → s.bus.headerIndex = 2 → exec .ackRead s = .next (State.nextMove { s with
       exchange := some { e with phase := .answer }
       bus := { s.bus with
         activity := .turnaround, nakCount := 0, timer := some { timer := .answer, units := s.settings.tAnswer } } }))) ∧
  (∀ (s : State) (e : Exchange), s.exchange = some e →
     (s.bus.nakCount + 1 ≤ s.settings.frameLimit.toNat →
       (s.bus.activity ∈ [.header, .sending] → exec .nakRead s = .next { s with
         bus := { s.bus with
           nakCount := s.bus.nakCount + 1, timer := some { timer := .frame, units := s.settings.tFrame } } }) ∧
       (s.bus.activity ∈ [.turnaround, .receiving] → exec .nakGiven s = .next { s with
         bus := { s.bus with
           nakCount := s.bus.nakCount + 1, timer := some { timer := .frame, units := s.settings.tFrame } } })) ∧
     (s.bus.activity ∈ [.header, .sending] → exec .noPattern s = .next { s with
       bus := { s.bus with timer := s.bus.timer.map fun w => if w.timer = .frame then { w with slot := true } else w } }) ∧
     (s.bus.activity = .turnaround → exec .answerTenthBit s = .next { s with
       bus := { s.bus with timer := some { timer := .frame, units := s.settings.tFrame } } }))

/-- A failure report gives the exchange in progress its outcome, puts it in Cut, starts the CUT, and makes the sequencer
Cutting for a job other than a census; a PUT's byte in flight stays in its ring (R16, R39, R94, R75, R37, log 25). -/
def Obligations.FailureStartsCut : Prop :=
  ∀ (s : State) (e : Exchange) (j : Job) (x : JobContext) (rest : List Job) (c : Instr) (o : ExchangeOutcome),
    s.exchange = some e → s.bus.activity ≠ .pulsing →
    ((c = .nakRead ∧ s.bus.activity ∈ [.header, .sending] ∧ s.settings.frameLimit.toNat < s.bus.nakCount + 1 ∧
        o = .frameError) ∨
      (c = .nakGiven ∧ s.bus.activity ∈ [.turnaround, .receiving] ∧
        s.settings.frameLimit.toNat < s.bus.nakCount + 1 ∧ o = .frameError) ∨
      (c = .frameTimeout ∧ s.bus.timing .frame = true ∧ o = .frameTimeout) ∨
      (c = .turnError ∧ s.bus.timing .turn = true ∧ o = .turnError) ∨
      (c = .stbEdgeInHandback ∧ s.bus.activity = .handback ∧ e.isClocked = true ∧ o = .turnError)) →
    ∃ t, exec c s = .next t ∧
      t = { s with
        exchange := some { e with
          phase := .cut, outcome := some o
          testResult := if o ≠ .turnError ∧ e.kind = .probe ∧ e.phase = .outbound
            then some { clocked := e.isClocked, passed := false } else e.testResult }
        bus := s.bus.inCut
        seq := if s.seq.state = .running ∧ s.inCensus = false then { s.seq with state := .cutting } else s.seq
        stations := t.stations, active := t.active, links := t.links } ∧
      (e.isClocked = false ∨ o = .turnError → t.stations = s.stations ∧ t.active = s.active) ∧
      (e.kind ≠ .put → t.links = s.links) ∧
      (e.kind = .put → s.jobs = j :: rest → s.active = some x →
        t.links = s.links.set j.linkIndex { s.link j.linkIndex with inFlight := false })

/-- A Clocked data phase that fails, by FRAME-TIMEOUT or by FRAME-ERROR, raises the streak of its station, and at streak
1 demotes it and sets the job's DEMOTED flag; a Clocked test run that fails demotes it, with the flag when it was not
demoted before (R38, R49, R50, R97, log 25). -/
def Obligations.ClockedFailureDemotes : Prop :=
  ∀ (s : State) (c : Instr) (e : Exchange) (x : JobContext), s.exchange = some e → s.active = some x →
    e.isClocked = true →
    ((c = .frameTimeout ∧ s.bus.timing .frame = true) ∨
      (c = .nakRead ∧ s.bus.activity ∈ [.header, .sending] ∧ s.settings.frameLimit.toNat < s.bus.nakCount + 1) ∨
      (c = .nakGiven ∧ s.bus.activity ∈ [.turnaround, .receiving] ∧
        s.settings.frameLimit.toNat < s.bus.nakCount + 1)) →
    ∃ t, exec c s = .next t ∧
      ((e.kind = .put ∧ e.phase = .outbound) ∨ (e.kind = .take ∧ e.phase = .inbound) →
        (s.station e.station).demoted = false →
        ((s.station e.station).streak = false →
          t.stations = s.stations.set e.station { s.station e.station with streak := true } ∧ t.active = some x) ∧
        ((s.station e.station).streak = true →
          t.stations = s.stations.set e.station { s.station e.station with streak := false, demoted := true } ∧
            t.active = some { x with demoted := true })) ∧
      (e.kind = .probe → e.phase = .outbound →
        t.stations = s.stations.set e.station { s.station e.station with streak := false, demoted := true } ∧
          t.active = some { x with demoted := x.demoted || !(s.station e.station).demoted })

/-- A valid answer is reported to its station's entry, fixes the pace, and moves the exchange to the phase its code and
kind name; the mark bit and data bits 7 to 5 play no part (R25, R26, R28, R30, R31, R32, R34, R36, R45, R178, logs 6 and
25). An answer whose code is invalid for the kind is reported to the station's entry all the same, is recorded with its
pace, and gives PROTOCOL-ERROR with a CUT; a PUT has no byte in flight then (R26, R27, R25, R45, R75, log 25). -/
def Obligations.AnswerResult : Prop :=
  (∀ (s : State) (e : Exchange) (d : Byte) (m : Bool), s.exchange = some e → s.bus.activity = .turnaround →
     (d.toNat % 8 = 0 ∨ d.toNat % 8 = 1 ∨ (d.toNat % 8 = 2 ∧ e.kind = .take) ∨
       (d.toNat % 8 ∈ [3, 4] ∧ e.kind ∈ [.openChannel, .shut, .put, .take])) →
     exec (.answerReceived d m) s = .next { s with
       stations := s.stations.set e.station { s.station e.station with
         presence := .present, capability := if d.getLsbD 3 then .clockedCapable else .basicOnly
         askPending := d.getLsbD 4 }
       exchange := some { e with
         answer := some { code := BitVec.ofNat 3 d.toNat, capability := d.getLsbD 3, ask := d.getLsbD 4 }
         pace := some (if d.getLsbD 3 = true ∧ (e.paceRequest = true ∨ (e.kind = .probe ∧ e.length = 2))
           then .clocked s.settings.clkRate else .basic)
         phase := if d.toNat % 8 = 0 ∧ e.kind ∈ [.status, .take] then .inbound else .handback }
       bus := if d.toNat % 8 = 0 ∧ e.kind ∈ [.status, .take]
         then { s.bus with
           activity := .receiving, nakCount := 0, timer := some { timer := .frame, units := s.settings.tFrame } }
         else { s.bus with
           activity := .handback, nakCount := 0, timer := some { timer := .turn, units := s.settings.tTurn } } }) ∧
  (∀ (s : State) (e : Exchange) (j : Job) (x : JobContext) (rest : List Job) (d : Byte) (m : Bool),
     s.exchange = some e → s.bus.activity = .turnaround →
     (5 ≤ d.toNat % 8 ∨ (d.toNat % 8 = 2 ∧ e.kind ≠ .take) ∨
       (d.toNat % 8 ∈ [3, 4] ∧ e.kind ∈ [.status, .probe])) →
     ∃ t, exec (.answerReceived d m) s = .next t ∧
       t = { s with
         stations := s.stations.set e.station { s.station e.station with
           presence := .present, capability := if d.getLsbD 3 then .clockedCapable else .basicOnly
           askPending := d.getLsbD 4 }
         exchange := some { e with
           answer := some { code := BitVec.ofNat 3 d.toNat, capability := d.getLsbD 3, ask := d.getLsbD 4 }
           pace := some (if d.getLsbD 3 = true ∧ (e.paceRequest = true ∨ (e.kind = .probe ∧ e.length = 2))
             then .clocked s.settings.clkRate else .basic)
           phase := .cut, outcome := some .protocolError }
         bus := s.bus.inCut
         seq := if s.seq.state = .running ∧ s.inCensus = false then { s.seq with state := .cutting } else s.seq
         links := t.links } ∧
       (e.kind ≠ .put → t.links = s.links) ∧
       (e.kind = .put → s.jobs = j :: rest → s.active = some x →
         t.links = s.links.set j.linkIndex { s.link j.linkIndex with inFlight := false }))

/-- A status frame is stored as the station's last status and handed on, the exchange awaits the handback, and in a scan
visit whose answer carried ask the station becomes the claimant (R31, R47, R126). A status frame of a STATUS job or of a
census visit is stored as the station's last status and handed on; the COMPLETE handback of a STATUS job ends it DONE
with the byte as its detail (R31, R47, R106). A TAKE data frame joins the ring with its mark, opens or closes the
message, raises the link's total and frames done; a mark or the last frame of the length ends the data phase, with
"Clocked phase good" in Clocked pace (R32, R76, R71, R38, R48, logs 6 and 13). -/
def Obligations.ReceivedFrameResult : Prop :=
  (∀ (s : State) (e : Exchange) (a : Answer) (x : Scan) (v : Byte) (m : Bool), s.exchange = some e → e.kind = .status →
     s.bus.activity = .receiving → e.answer = some a → s.attention.scan = some x → s.seq.state = .scanning →
     exec (.frameReceived v m) s = .next { s with
       stations := s.stations.set e.station { s.station e.station with lastStatus := some v }
       exchange := some { e with statusByte := some v, phase := .handback }
       attention := { s.attention with
         scan := some { x with claim := if a.ask then some (e.station, v) else x.claim } }
       bus := { s.bus with
         activity := .handback, nakCount := 0, timer := some { timer := .turn, units := s.settings.tTurn } } }) ∧
  (∀ (s : State) (e : Exchange) (a : Answer) (j : Job) (x : JobContext) (rest : List Job) (v : Byte) (m : Bool),
     s.exchange = some e → e.kind = .status → s.seq.state = .running →
     (s.bus.activity = .receiving → exec (.frameReceived v m) s = .next { s with
       stations := s.stations.set e.station { s.station e.station with lastStatus := some v }
       exchange := some { e with statusByte := some v, phase := .handback }
       bus := { s.bus with
         activity := .handback, nakCount := 0, timer := some { timer := .turn, units := s.settings.tTurn } } }) ∧
     (s.bus.activity = .handback → s.bus.waiting = none → e.answer = some a → a.code = 0 → s.jobs = j :: rest →
       s.jobs.length ≤ 8 → s.active = some x → j.kind = .status → e.statusByte = some v →
       exec .handback s = .next (State.decide (State.afterJobEnd { s with bus := s.bus.inFree }
         (j.endRecord (x.withExchange e) .done 0))))) ∧
  (∀ (s : State) (e : Exchange) (j : Job) (x : JobContext) (rest : List Job) (l : Link) (v : Byte) (m : Bool),
     s.exchange = some e → e.kind = .take → s.bus.activity = .receiving → s.jobs = j :: rest → s.active = some x →
     l = s.link j.linkIndex →
     (m = false → e.framesDone + 1 ≠ e.length.toNat →
       exec (.frameReceived v m) s = .next (State.nextMove { s with
         links := s.links.set j.linkIndex { l with
           ring := l.ring ++ [{ byte := v, marked := false }], messageOpen := true, total := l.total + 1 }
         exchange := some { e with framesDone := e.framesDone + 1, phase := .inbound }
         bus := { s.bus with
           activity := .receiving, nakCount := 0, timer := some { timer := .frame, units := s.settings.tFrame } } })) ∧
     (m = true ∨ e.framesDone + 1 = e.length.toNat →
       exec (.frameReceived v m) s = .next (State.nextMove { s with
         links := s.links.set j.linkIndex { l with
           ring := l.ring ++ [{ byte := v, marked := m }], messageOpen := !m, total := l.total + 1 }
         stations := if e.isClocked
           then s.stations.set e.station { s.station e.station with streak := false } else s.stations
         exchange := some { e with
           framesDone := e.framesDone + 1, markReceived := e.markReceived || m, phase := .handback }
         bus := { s.bus with
           activity := .handback, nakCount := 0, timer := some { timer := .turn, units := s.settings.tTurn } } })))

/-- The handback of an accepted PUT puts the oldest byte in flight and sends its frame with its mark (R34, R75, log 6).
An ACK of a PUT data frame that is not the last removes the oldest byte, raises the link's total and frames done, and
sends the next byte (R35, R75, logs 6, 13 and 27). -/
def Obligations.PutSendsBytesInOrder : Prop :=
  (∀ (s : State) (e : Exchange) (a : Answer) (j : Job) (x : JobContext) (rest : List Job) (cell : Cell)
     (newer : List Cell), s.exchange = some e → e.kind = .put → s.bus.activity = .handback → e.answer = some a →
     a.code = 0 → s.jobs = j :: rest → s.active = some x → (s.link j.linkIndex).ring = cell :: newer →
     exec .handback s = .next { s with
       links := s.links.set j.linkIndex { s.link j.linkIndex with inFlight := true }
       exchange := some { e with phase := .outbound }
       bus := { s.bus with
         activity := .sending, nakCount := 0, timer := some { timer := .frame, units := s.settings.tFrame }
         frame := { data := cell.byte, mark := cell.marked } } }) ∧
  (∀ (s : State) (e : Exchange) (j : Job) (x : JobContext) (rest : List Job) (sent next : Cell) (newer : List Cell),
     s.exchange = some e → e.kind = .put → s.bus.activity = .sending → s.jobs = j :: rest → s.active = some x →
     (s.link j.linkIndex).ring = sent :: next :: newer → e.framesDone + 1 ≠ e.length.toNat →
     exec .ackRead s = .next (State.nextMove { s with
       links := s.links.set j.linkIndex { s.link j.linkIndex with
         ring := next :: newer
         start := ((s.link j.linkIndex).start + 1) % (256 * (s.link j.linkIndex).pages.length)
         total := (s.link j.linkIndex).total + 1, inFlight := true }
       active := some { x with msgEnd := x.msgEnd || s.bus.frame.mark }
       exchange := some { e with framesDone := e.framesDone + 1, phase := .outbound }
       bus := { s.bus with
         nakCount := 0, timer := some { timer := .frame, units := s.settings.tFrame }
         frame := { data := next.byte, mark := next.marked } } }))

/-- The ACK of the last frame of a PUT exchange ends it COMPLETE: at a mark or at the limit the job ends DONE with the
bytes moved, else it stays between exchanges (R35, R38, R103, R114, logs 13 and 27). -/
def Obligations.LastPutAckEndsExchange : Prop :=
  ∀ (s : State) (e : Exchange) (j : Job) (x : JobContext) (rest : List Job) (sent : Cell) (newer : List Cell)
    (base : State),
    s.exchange = some e → e.kind = .put → e.length.toNat = e.framesDone + 1 → e.markReceived = false →
    e.statusByte = none → e.testResult = none → s.bus.activity = .sending → s.bus.waiting = none →
    s.seq.state = .running → s.jobs = j :: rest → s.jobs.length ≤ 8 → s.active = some x → j.kind = .put →
    (s.link j.linkIndex).ring = sent :: newer →
    base = { s with
      links := s.links.set j.linkIndex { s.link j.linkIndex with
        ring := newer
        start := ((s.link j.linkIndex).start + 1) % (256 * (s.link j.linkIndex).pages.length)
        total := (s.link j.linkIndex).total + 1, inFlight := false }
      stations := if e.isClocked
        then s.stations.set e.station { s.station e.station with streak := false } else s.stations
      active := some { x with
        msgEnd := x.msgEnd || s.bus.frame.mark, bytesMoved := x.bytesMoved + e.length.toNat }
      exchange := none
      bus := s.bus.inFree } →
    ((x.msgEnd = false ∧ s.bus.frame.mark = false ∧ x.bytesMoved + e.length.toNat ≠ j.limit.toNat) →
      exec .ackRead s = .next base.nextMove) ∧
    ((x.msgEnd = true ∨ s.bus.frame.mark = true ∨ x.bytesMoved + e.length.toNat = j.limit.toNat) →
      exec .ackRead s = .next (State.decide (State.nextMove (State.afterJobEnd base
        { kind := .job .put, source := j.tag, result := .code .done
          count := BitVec.ofNat 16 (x.bytesMoved + e.length.toNat), detail := BitVec.ofNat 8 x.busyCount
          flags := JobContext.flagByte { x with msgEnd := x.msgEnd || s.bus.frame.mark } }))))

/-- The two test frames of a PROBE: after the first ACK A5 hex is sent; after the second the job ends DONE, and a
Clocked run clears demoted and the streak and sets TESTCLK (R36, R37, R50, R107, log 13). The frame timer is held as
started at the event that sends the frame, for all the runs of that frame (log 6). The handback of an accepted PROBE: of
length 2 it sends the first test frame, 5A hex with the mark clear, and of length 0 it ends the job DONE with the detail
NONE (R36, R107, R20, log 6). -/
def Obligations.ProbeTestFrames : Prop :=
  (∀ (s : State) (e : Exchange) (j : Job) (x : JobContext) (rest : List Job),
     s.exchange = some e → e.kind = .probe → s.bus.activity = .sending → s.jobs = j :: rest → s.active = some x →
     (e.testPassed = 0 → exec .ackRead s = .next (State.nextMove { s with
       exchange := some { e with testPassed := 1, phase := .outbound }
       bus := { s.bus with
         nakCount := 0, timer := some { timer := .frame, units := s.settings.tFrame }
         frame := { data := 0xA5, mark := false } } })) ∧
     (e.testPassed = 1 → s.seq.state = .running → s.bus.waiting = none → s.jobs.length ≤ 8 → j.kind = .probe →
       e.framesDone = 0 → e.markReceived = false → e.statusByte = none → x.testClk = false →
       exec .ackRead s = .next (State.decide (State.nextMove (State.afterJobEnd
         { s with
           stations := if e.isClocked
             then s.stations.set e.station { s.station e.station with demoted := false, streak := false } else s.stations
           bus := s.bus.inFree }
         { kind := .job .probe, source := j.tag, result := .code .done, count := 0
           detail := if e.isClocked then 2 else 1
           flags := JobContext.flagByte { x with testClk := e.isClocked } }))))) ∧
  (∀ (s : State) (e : Exchange) (a : Answer) (j : Job) (x : JobContext) (rest : List Job),
     s.exchange = some e → e.kind = .probe → s.bus.activity = .handback → e.answer = some a → a.code = 0 →
     (e.length = 2 → e.testPassed = 0 → exec .handback s = .next { s with
       exchange := some { e with phase := .outbound }
       bus := { s.bus with
         activity := .sending, nakCount := 0, timer := some { timer := .frame, units := s.settings.tFrame }
         frame := { data := 0x5A, mark := false } } }) ∧
     (e.length = 0 → s.seq.state = .running → s.bus.waiting = none → s.jobs = j :: rest → s.jobs.length ≤ 8 →
       s.active = some x → j.kind = .probe → e.framesDone = 0 → e.markReceived = false → e.statusByte = none →
       e.testResult = none → x.probe = .none →
       exec .handback s = .next (State.decide (State.afterJobEnd { s with bus := s.bus.inFree }
         { kind := .job .probe, source := j.tag, result := .code .done, count := 0, detail := 0, flags := x.flagByte }))))

/-- The handback of a BUSY answer raises the job's busy count: past the limit the job ends BUSY-LIMIT, an OPEN or a SHUT
with its link closed; within it the sequencer is Holding for the delay read now, and with a delay of 0 the repeat
exchange begins at once, in Clearing under the turn timer (R28, R95, R96, R64, R66, logs 7 and 30). The close of an
OPEN's or a SHUT's link past the busy limit stops a bound channel with LINK, as at every end of such a job (R64, R66,
R67, R166, R167, R142, logs 8 and 30). -/
def Obligations.BusyHandback : Prop :=
  (∀ (s : State) (e r : Exchange) (a : Answer) (j : Job) (x : JobContext) (rest : List Job),
     s.exchange = some e → s.bus.activity = .handback → s.bus.waiting = none → e.answer = some a → a.code = 1 →
     e.framesDone = 0 → e.markReceived = false → e.statusByte = none → e.testResult = none →
     s.seq.state = .running → s.jobs = j :: rest → s.jobs.length ≤ 8 → s.active = some x →
     (j.kind ≠ .census → x.busyCount + 1 ≤ s.settings.busyLimit.toNat → s.settings.busyDelay ≠ 0 →
       exec .handback s = .next { s with
         exchange := none
         bus := s.bus.inFree
         active := some { x with busyCount := x.busyCount + 1 }
         seq := { s.seq with state := .holding, holdMs := s.settings.busyDelay } }) ∧
     (j.kind ≠ .census → x.busyCount + 1 ≤ s.settings.busyLimit.toNat → s.settings.busyDelay = 0 →
       s.NextExchange j x r → exec .handback s = .next { s with
         exchange := some r
         bus := s.bus.inFree.inClearing s.settings
         active := some { x with busyCount := x.busyCount + 1 } }) ∧
     (s.settings.busyLimit.toNat < x.busyCount + 1 →
       (j.kind ∈ [.put, .take, .status, .probe] →
         exec .handback s = .next (State.decide (State.afterJobEnd { s with bus := s.bus.inFree }
           (j.endRecord { x with busyCount := x.busyCount + 1 } .busyLimit 0)))) ∧
       (j.kind ∈ [.openLink, .shut] → (s.link j.linkIndex).holder = none →
         exec .handback s = .next (State.decide (State.afterJobEnd
           (State.afterClose { s with bus := s.bus.inFree } j.linkIndex)
           (j.endRecord { x with busyCount := x.busyCount + 1 } .busyLimit (s.link j.linkIndex).ring.length)))))) ∧
  (∀ (s : State) (e : Exchange) (a : Answer) (j : Job) (x : JobContext) (rest : List Job) (c : Chan),
     s.exchange = some e → s.bus.activity = .handback → s.bus.waiting = none → e.answer = some a → a.code = 1 →
     s.seq.state = .running → s.jobs = j :: rest → s.jobs.length ≤ 8 → s.active = some x →
     s.settings.busyLimit.toNat < x.busyCount + 1 → j.kind ∈ [.openLink, .shut] →
     (s.link j.linkIndex).holder = some c → (s.chan c).running = true →
     ∃ t, State.EndsStopping (State.afterClose { s with bus := s.bus.inFree } j.linkIndex) t c .link
         (j.endRecord { x.withExchange e with busyCount := x.busyCount + 1 } .busyLimit (s.link j.linkIndex).ring.length) ∧
       exec .handback s = .next t.decide)

/-- The handback of an accepted OPEN opens its link and ends the job DONE (R30, R64, R99, R114). The handback of an
accepted SHUT, with no mover channel bound, closes the link, frees its pages and reports the bytes discarded (R66, R67,
R61, R101, R114, log 30). The close at a SHUT's COMPLETE handback stops a bound channel with LINK (R66, R67, R166, R167,
R142, logs 8 and 30). The handback of a TAKE exchange: COMPLETE with a mark received or at the limit ends the job DONE,
with MSG-END for a mark; COMPLETE short of both leaves it between exchanges; EMPTY ends it DONE with the EMPTY flag and
the bytes moved (R33, R94, R105, R114). The handback of a NO-CHANNEL or a WRONG-STATE answer ends the job with that
result, an OPEN or a SHUT with its link closed and a bound channel stopped with LINK (R28, R94, R64, R66, R67, R99,
R101, logs 8 and 30). -/
def Obligations.LinkJobHandbacks : Prop :=
  (∀ (s : State) (e : Exchange) (a : Answer) (j : Job) (x : JobContext) (rest : List Job),
     s.exchange = some e → e.kind = .openChannel → s.bus.activity = .handback → s.bus.waiting = none →
     e.answer = some a → a.code = 0 → s.seq.state = .running → s.jobs = j :: rest → s.jobs.length ≤ 8 →
     s.active = some x → j.kind = .openLink → e.framesDone = 0 → e.markReceived = false → e.testResult = none →
     exec .handback s = .next (State.decide (State.afterJobEnd
       { s with
         bus := s.bus.inFree
         links := s.links.set j.linkIndex { s.link j.linkIndex with state := .opened } }
       { kind := .job .openLink, source := j.tag, result := .code .done, count := 0
         detail := BitVec.ofNat 8 x.busyCount, flags := x.flagByte }))) ∧
  (∀ (s : State) (e : Exchange) (a : Answer) (j : Job) (x : JobContext) (rest : List Job),
     s.exchange = some e → e.kind = .shut → s.bus.activity = .handback → s.bus.waiting = none →
     e.answer = some a → a.code = 0 → s.seq.state = .running → s.jobs = j :: rest → s.jobs.length ≤ 8 →
     s.active = some x → j.kind = .shut → e.markReceived = false → e.testResult = none →
     (s.link j.linkIndex).holder = none →
     exec .handback s = .next (State.decide (State.afterJobEnd
       { s with
         bus := s.bus.inFree
         links := s.links.set j.linkIndex { s.link j.linkIndex with
           state := .closed, pages := [], start := 0, ring := [], inFlight := false, messageOpen := false, holder := none }
         freePages := allPages.filter fun p => p ∈ s.freePages ∨ p ∈ (s.link j.linkIndex).pages }
       { kind := .job .shut, source := j.tag, result := .code .done
         count := BitVec.ofNat 16 (s.link j.linkIndex).ring.length
         detail := BitVec.ofNat 8 (s.link j.linkIndex).ring.length, flags := x.flagByte }))) ∧
  (∀ (s : State) (e : Exchange) (a : Answer) (j : Job) (x : JobContext) (rest : List Job) (c : Chan),
     s.exchange = some e → e.kind = .shut → s.bus.activity = .handback → s.bus.waiting = none →
     e.answer = some a → a.code = 0 → s.seq.state = .running → s.jobs = j :: rest → s.jobs.length ≤ 8 →
     s.active = some x → j.kind = .shut → (s.link j.linkIndex).holder = some c → (s.chan c).running = true →
     ∃ t, State.EndsStopping (State.afterClose { s with bus := s.bus.inFree } j.linkIndex) t c .link
         (j.endRecord (x.withExchange e) .done (s.link j.linkIndex).ring.length) ∧
       exec .handback s = .next t.decide) ∧
  (∀ (s : State) (e : Exchange) (a : Answer) (j : Job) (x y : JobContext) (rest : List Job),
     s.exchange = some e → e.kind = .take → s.bus.activity = .handback → s.bus.waiting = none →
     e.answer = some a → s.seq.state = .running → s.jobs = j :: rest → s.jobs.length ≤ 8 → s.active = some x →
     j.kind = .take →
     y = { x with bytesMoved := x.bytesMoved + e.framesDone, msgEnd := x.msgEnd || e.markReceived } →
     e.statusByte = none → e.testResult = none →
     (a.code = 0 → (y.msgEnd = true ∨ y.bytesMoved = j.limit.toNat) →
       exec .handback s = .next (State.decide (State.afterJobEnd { s with bus := s.bus.inFree } (j.endRecord y .done 0)))) ∧
     (a.code = 0 → y.msgEnd = false → y.bytesMoved ≠ j.limit.toNat →
       exec .handback s = .next { s with exchange := none, bus := s.bus.inFree, active := some y }) ∧
     (a.code = 2 →
       exec .handback s = .next (State.decide (State.afterJobEnd { s with bus := s.bus.inFree }
         (j.endRecord { y with emptyAnswer := true } .done 0))))) ∧
  (∀ (s base : State) (e : Exchange) (a : Answer) (j : Job) (x : JobContext) (rest : List Job) (c : Chan) (r : JobResult),
     s.exchange = some e → s.bus.activity = .handback → s.bus.waiting = none →
     e.answer = some a → s.seq.state = .running → s.jobs = j :: rest → s.jobs.length ≤ 8 → s.active = some x →
     ((a.code = 3 ∧ r = .noChannel) ∨ (a.code = 4 ∧ r = .wrongState)) →
     base = { s with bus := s.bus.inFree } →
     (j.kind ∈ [.put, .take] →
       exec .handback s = .next (State.decide (base.afterJobEnd (j.endRecord (x.withExchange e) r 0)))) ∧
     (j.kind ∈ [.openLink, .shut] → (s.link j.linkIndex).holder = none →
       exec .handback s = .next (State.decide (State.afterJobEnd (base.afterClose j.linkIndex)
         (j.endRecord (x.withExchange e) r (s.link j.linkIndex).ring.length)))) ∧
     (j.kind ∈ [.openLink, .shut] → (s.link j.linkIndex).holder = some c → (s.chan c).running = true →
       ∃ t, State.EndsStopping (base.afterClose j.linkIndex) t c .link
           (j.endRecord (x.withExchange e) r (s.link j.linkIndex).ring.length) ∧
         exec .handback s = .next t.decide))

/-- R46: at an answer timeout the header's station becomes Absent and the rest of its entry is kept; a header that fails
before the turnaround leaves every entry as it was. -/
def Obligations.AnswerTimeoutReport : Prop :=
  ∀ (s : State) (e : Exchange), s.exchange = some e →
    (s.bus.activity = .turnaround → s.bus.timing .answer = true → s.seq.state = .running ∨ s.seq.state = .scanning →
      ∃ t, exec .answerTimeout s = .next t ∧
        t.stations = s.stations.set e.station { s.station e.station with presence := .absent }) ∧
    (e.phase = .header →
      (s.bus.activity = .clearing → s.bus.timing .turn = true →
        ∃ t, exec .turnError s = .next t ∧ t.stations = s.stations) ∧
      (s.bus.activity = .header → s.bus.timing .frame = true →
        ∃ t, exec .frameTimeout s = .next t ∧ t.stations = s.stations) ∧
      (s.bus.activity = .header → s.settings.frameLimit.toNat < s.bus.nakCount + 1 →
        ∃ t, exec .nakRead s = .next t ∧ t.stations = s.stations))

/-- R48: "Clocked phase good" comes at the ACK of the last data frame of a PUT or TAKE whose pace is Clocked, sets the
streak of the header's station to 0 and keeps demoted. -/
def Obligations.ClockedPhaseGoodReport : Prop :=
  ∀ (s : State) (e : Exchange) (v : Byte) (m : Bool), s.exchange = some e → e.isClocked = true →
    (e.kind = .put → s.bus.activity = .sending → e.framesDone + 1 = e.length.toNat →
      ∃ t, exec .ackRead s = .next t ∧
        t.stations = s.stations.set e.station { s.station e.station with streak := false }) ∧
    (e.kind = .take → s.bus.activity = .receiving → (m = true ∨ e.framesDone + 1 = e.length.toNat) →
      ∃ t, exec (.frameReceived v m) s = .next t ∧
        t.stations = s.stations.set e.station { s.station e.station with streak := false })

/-- An answer timeout ends the job it meets NO-STATION with no CUT, an OPEN or a SHUT with its link closed; the station
is Absent (R24, R94, R99, R101, R106, R46, log 30). The completion of a CUT ends the job it belongs to with the
exchange's outcome and its counts: a SHUT with its link closed, an OPEN with its link closed or, after an ACCEPT and
TURN-ERROR, Open. With no Active job, after a SOFT-RESET, it ends in Idle with no event (R16, R39, R64, R66, R94, R101,
R103, R106, R107, R116, log 30). Either way a close stops a bound channel with LINK: its run ends, and its event and the
job's join the queue in either order, or with its byte move in progress it has the stop pending (R67, R166, R167, R142,
logs 8 and 30). -/
def Obligations.FailedExchangeEndsJob : Prop :=
  (∀ (s base : State) (e : Exchange) (j : Job) (x : JobContext) (rest : List Job),
     s.exchange = some e → s.bus.activity = .turnaround → s.bus.timing .answer = true → s.bus.waiting = none →
     s.seq.state = .running → s.jobs = j :: rest → s.jobs.length ≤ 8 → s.active = some x →
     base = { s with
       bus := s.bus.inFree
       stations := s.stations.set e.station { s.station e.station with presence := .absent } } →
     (j.kind ∈ [.put, .take, .status, .probe] → exec .answerTimeout s = .next (State.decide (base.afterJobEnd
       (j.endRecord (x.withExchange e) .noStation 0)))) ∧
     (j.kind ∈ [.openLink, .shut] → (s.link j.linkIndex).holder = none →
       exec .answerTimeout s = .next (State.decide (State.afterJobEnd (base.afterClose j.linkIndex)
         (j.endRecord (x.withExchange e) .noStation (s.link j.linkIndex).ring.length))))) ∧
  (∀ (s base : State) (e : Exchange) (o : ExchangeOutcome) (j : Job) (x : JobContext) (rest : List Job),
     s.bus.activity = .cutting → s.bus.waiting = none → s.seq.state = .cutting → s.exchange = some e →
     base = { s with bus := s.bus.inFree } →
     (s.active = none → exec .cutCompletion s = .next (State.decide { base with
       exchange := none, seq := { s.seq with state := .idle } })) ∧
     (s.active = some x → s.jobs = j :: rest → s.jobs.length ≤ 8 → e.outcome = some o →
       o ∈ [.frameError, .frameTimeout, .turnError, .protocolError, .cutByRequest] →
       (j.kind ∈ [.put, .take, .status, .probe] → exec .cutCompletion s = .next (State.decide (base.afterJobEnd
         (j.endRecord (x.withExchange e) o.result 0)))) ∧
       ((j.kind = .shut ∨ (j.kind = .openLink ∧ ¬(o = .turnError ∧ e.answer.any (·.code == 0) = true))) →
         (s.link j.linkIndex).holder = none →
         exec .cutCompletion s = .next (State.decide (State.afterJobEnd (base.afterClose j.linkIndex)
           (j.endRecord (x.withExchange e) o.result (s.link j.linkIndex).ring.length)))) ∧
       (j.kind = .openLink → o = .turnError → e.answer.any (·.code == 0) = true →
         exec .cutCompletion s = .next (State.decide (State.afterJobEnd
           { base with links := s.links.set j.linkIndex { s.link j.linkIndex with state := .opened } }
           (j.endRecord (x.withExchange e) .turnError 0)))))) ∧
  (∀ (s base : State) (i : Instr) (e : Exchange) (r : JobResult) (j : Job) (x : JobContext) (rest : List Job) (c : Chan),
     s.bus.waiting = none → s.exchange = some e → s.jobs = j :: rest → s.jobs.length ≤ 8 → s.active = some x →
     ((i = .answerTimeout ∧ s.bus.activity = .turnaround ∧ s.bus.timing .answer = true ∧ s.seq.state = .running ∧
         r = .noStation ∧ j.kind ∈ [.openLink, .shut] ∧
         base = { s with
           bus := s.bus.inFree
           stations := s.stations.set e.station { s.station e.station with presence := .absent } }) ∨
       (i = .cutCompletion ∧ s.bus.activity = .cutting ∧ s.seq.state = .cutting ∧
         (e.outcome, r) ∈ [(some .frameError, .frameError), (some .frameTimeout, .frameTimeout),
           (some .turnError, .turnError), (some .protocolError, .protocolError), (some .cutByRequest, .aborted)] ∧
         (j.kind = .shut ∨ (j.kind = .openLink ∧ ¬(r = .turnError ∧ e.answer.any (·.code == 0) = true))) ∧
         base = { s with bus := s.bus.inFree })) →
     (s.link j.linkIndex).holder = some c → (s.chan c).running = true →
     ∃ t, State.EndsStopping (base.afterClose j.linkIndex) t c .link
         (j.endRecord (x.withExchange e) r (s.link j.linkIndex).ring.length) ∧
       exec i s = .next t.decide)

/-! ### Resets -/

/-- The pulse completion of a BUSRESET, with no channel bound to an Open OUT link: every entry takes its pin reset
values, every Open link is Lost with its ring, marks and pages, the latch and mask are cleared, the job ends DONE (R54,
R68, R110, R120). A bus reset, with no job waiting behind it, stops a channel bound to an Open OUT link: with no move in
progress it is Idle with a MOVER event of reason LOST, and with one it has the stop pending LOST; a channel on an IN
link runs on (R68, R166, R167). The whole next state where a Running channel holds an Open OUT link: the entries are
reset, every Open link is Lost, an OUT link with no holder, the job ends DONE, and the channel is stopped with LOST, its
event and the job's in either order, or with its move in progress it has the stop pending. With both channels so bound,
both are stopped, and the events join in any order (R54, R68, R110, R120, R166, R167, R142, log 8). -/
def Obligations.PulseCompletionResult : Prop :=
  (∀ (s : State) (j : Job) (x : JobContext) (rest : List Job), s.bus.activity = .pulsing → s.bus.waiting = none →
     s.seq.state = .resetting → s.jobs = j :: rest → s.jobs.length ≤ 8 → s.active = some x → j.kind = .busReset →
     s.attention.scan = none →
     (∀ i : LinkIndex, (s.link i).state = .opened → (s.link i).dir = .output → (s.link i).holder = none) →
     exec .pulseCompletion s = .next (State.decide (State.afterJobEnd
       { s with
         bus := s.bus.inFree
         stations := Vector.replicate 14 { presence := .unknown, capability := .unknown, demoted := false, streak := false,
                                           askPending := false, lastStatus := none }
         links := mapTable (fun l => if l.state = .opened then { l with state := .lost } else l) s.links
         attention := { s.attention with latch := s.pins.askLine && s.settings.scan, mask := false } }
       { kind := .job .busReset, source := j.tag, result := .code .done, count := 0, detail := 0, flags := x.flagByte }))) ∧
  (∀ (s : State) (c : Chan) (i : LinkIndex) (j : Job), s.HolderLaw → s.bus.activity = .pulsing →
     s.seq.state = .resetting → s.jobs = [j] → j.kind = .busReset → (s.link i).holder = some c → (s.link i).state = .opened →
     ∃ t, exec .pulseCompletion s = .next t ∧
       ((s.link i).dir = .output → s.moving c = false → (s.chan c).stopPending = none →
         (t.chan c).running = false ∧ (s.chan c).stopRecord c .lost ∈ t.events.held) ∧
       ((s.link i).dir = .output → s.moving c = true → (s.chan c).stopPending = none →
         (t.chan c).running = true ∧ (t.chan c).stopPending = some .lost) ∧
       ((s.link i).dir = .input → (t.chan c).running = true ∧ (t.link i).holder = some c)) ∧
  (∀ (s base : State) (j : Job) (x : JobContext) (rest : List Job) (e : Event) (c : Chan) (i k : LinkIndex),
     s.bus.activity = .pulsing → s.bus.waiting = none → s.seq.state = .resetting → s.jobs = j :: rest →
     s.jobs.length ≤ 8 → s.active = some x → j.kind = .busReset → s.attention.scan = none →
     e = { kind := .job .busReset, source := j.tag, result := .code .done, count := 0, detail := 0, flags := x.flagByte } →
     base = { s with
       bus := s.bus.inFree
       stations := Vector.replicate 14 { presence := .unknown, capability := .unknown, demoted := false, streak := false,
                                         askPending := false, lastStatus := none }
       links := mapTable (fun l => if l.state = .opened
         then { l with state := .lost, holder := if l.dir = .output then none else l.holder } else l) s.links
       attention := { s.attention with latch := s.pins.askLine && s.settings.scan, mask := false } } →
     (s.link i).state = .opened → (s.link i).dir = .output → (s.link i).holder = some c → (s.chan c).running = true →
     ((∀ n : LinkIndex, (s.link n).state = .opened → (s.link n).dir = .output → (s.link n).holder ≠ some c.other) →
       ∃ t, base.EndsStopping t c .lost e ∧ exec .pulseCompletion s = .next t.decide) ∧
     ((s.link k).state = .opened → (s.link k).dir = .output → (s.link k).holder = some c.other →
       (s.chan c.other).running = true →
       (s.moving c = true →
         ∃ t, State.EndsStopping { base with
             freeTick := s.freeTick + 1
             mover := s.mover.setChan c { s.chan c with stopPending := some ((s.chan c).stopPending.getD .lost) } }
             t c.other .lost e ∧
           exec .pulseCompletion s = .next t.decide) ∧
       (s.moving c = false → s.moving c.other = false →
         ∃ held, held.Perm [(s.chan c).stopRecord c .lost, (s.chan c.other).stopRecord c.other .lost, e] ∧
           exec .pulseCompletion s = .next (State.decide
             { ((base.afterRunEnd c .lost).afterRunEnd c.other .lost).afterJobEnd e with
               freeTick := s.freeTick + 2
               events := { (((base.afterRunEnd c .lost).afterRunEnd c.other .lost).afterJobEnd e).events with
                 held := s.events.held ++ held } }))))

/-- SOFT-RESET: the queue is emptied, every link is Closed with the pages free, both channels are Idle, every entry's
streak and ask-pending are cleared, the port's flags and CMDERR are cleared, and the settings, INDEX, REFUSE, PURGED,
the rotation start and the holding copies stay (R175, R53, R69, R116, R141, R154, R168). SOFT-RESET and the bus: an
exchange in progress is cut and the sequencer is Cutting, a pulse ends early with every entry reset, and any other state
ends in Idle (R19, R41, R116, R53, R54, log 28). As a whole, in every state that keeps the law of the station bus: no
job, context, scan or event is left, the job-turn flag and the stall are clear, the mask is clear and the latch is set
again exactly when ASK is asserted and CFG.SCAN is set, and an arbiter that is Idle then decides (R116, R130, R119,
R168, logs 14, 20, 28, 30 and 32). -/
def Obligations.SoftResetResult : Prop :=
  (∀ s : State, s.windowShut = false →
     ∃ t, exec .softReset s = .next t ∧
       t.jobs = [] ∧ t.active = none ∧ t.freePages = allPages ∧ t.settings = s.settings ∧
       t.window = { s.window with cmdErr := false } ∧
       t.port = { link := s.port.link, last := false, underrun := false, overrun := false, denied := false } ∧
       t.mover = { a := { s.mover.a with running := false, stopPending := none },
                   b := { s.mover.b with running := false, stopPending := none }, lastServed := .b, move := none } ∧
       t.events.qroom = false ∧ t.attention.rotation = s.attention.rotation ∧
       (∀ i : LinkIndex, (t.link i).state = .closed ∧ (t.link i).holder = none ∧
         (t.link i).station = (s.link i).station ∧ (t.link i).channel = (s.link i).channel ∧
         (t.link i).dir = (s.link i).dir ∧ (t.link i).total = (s.link i).total ∧
         ((s.link i).state ≠ .closed → (t.link i).pages = [] ∧ (t.link i).ring = [] ∧ (t.link i).messageOpen = false)) ∧
       (s.bus.activity ≠ .pulsing → ∀ i : StationIndex,
         t.station i = { s.station i with askPending := false, streak := false }) ∧
       (s.pins.askLine = false → t.events.held = [] ∧ t.events.reserved = [])) ∧
  (∀ (s : State) (e : Exchange), s.windowShut = false → s.BusLaw → s.pins.askLine = false →
     ∃ t, exec .softReset s = .next t ∧
       (s.exchange = some e → t.seq.state = .cutting ∧ t.bus = s.bus.inCut ∧
         t.exchange = some { e with phase := .cut, outcome := some (e.outcome.getD .cutByRequest) }) ∧
       (s.seq.state = .resetting → t.seq.state = .idle ∧ t.bus.activity = .free ∧
         ∀ i : StationIndex, t.station i = Station.reset) ∧
       (s.exchange = none → t.seq.state = .idle ∧ t.exchange = none ∧ t.bus.activity = .free)) ∧
  (∀ s : State, s.windowShut = false → s.BusLaw → exec .softReset s = .next (State.decide { s with
     window := { s.window with cmdErr := false }
     jobs := []
     active := none
     exchange := s.exchange.map fun e => { e with phase := .cut, outcome := some (e.outcome.getD .cutByRequest) }
     bus := if s.exchange.isSome then s.bus.inCut else if s.bus.activity = .pulsing then s.bus.inFree else s.bus
     seq := { s.seq with
       state := if s.exchange.isSome then .cutting else .idle, stall := false, jobTurn := false }
     stations := if s.bus.activity = .pulsing
       then Vector.replicate 14 { presence := .unknown, capability := .unknown, demoted := false, streak := false,
                                  askPending := false, lastStatus := none }
       else mapTable (fun e => { e with askPending := false, streak := false }) s.stations
     links := mapTable (fun l => if l.state = .closed then { l with holder := none } else { l with
       state := .closed, pages := [], start := 0, ring := [], inFlight := false, messageOpen := false, holder := none })
       s.links
     freePages := allPages
     events := { held := [], reserved := [], qroom := false }
     port := { link := s.port.link, last := false, underrun := false, overrun := false, denied := false }
     mover := { a := { s.mover.a with running := false, stopPending := none }
                b := { s.mover.b with running := false, stopPending := none }, lastServed := .b, move := none }
     attention := { s.attention with latch := s.pins.askLine && s.settings.scan, mask := false, scan := none }
     pins := { s.pins with hostWrite := (match s.mover.move with
       | some { chan := c, popped := some cell } => some { addr := (s.chan c).addr, data := cell.byte }
       | _ => s.pins.hostWrite) } }))

/-- PIN_RESET answers a next state in every state, and every block takes the values the rules state: the bus unit, the
settings, the tables and links, the queue and the sequencer, the attention unit, the events, the port, the mover and the
window (R19, R44, R59, R62, R117, R118, R142, R143, R155, R168, R170, R176, section 10.3). The input levels, the free
counter and the queue of commands stay (log 3); values the rules do not state are the model's (logs 1, 14, 16, 30).
After PIN_RESET, STATUS reads 08 hex with ASK released and 48 hex with ASK asserted, INT and BREQ are released, and a
write of any INDEX followed by a DATA read returns the pin reset value of its row of the map, 0 where not named here
(sections 10.3 and 10.6.2). -/
def Obligations.PinResetResult : Prop :=
  (∀ s : State, exec .pinReset s = .next {
     bus := { activity := .free, waiting := none, headerIndex := 0, frame := { data := 0, mark := false }, nakCount := 0
              timer := none, pulseMs := 0 }
     exchange := none
     stations := Vector.replicate 14 { presence := .unknown, capability := .unknown, demoted := false, streak := false,
                                       askPending := false, lastStatus := none }
     links := Vector.replicate 12 { state := .closed, station := 0, channel := 0, dir := .output, pages := [], start := 0,
                                    ring := [], inFlight := false, messageOpen := false, holder := none, total := 0 }
     freePages := List.finRange 16
     jobs := []
     active := none
     seq := { state := .idle, stall := false, jobTurn := false, holdMs := 0 }
     attention := { latch := false, mask := false, rotation := 0, scan := none }
     events := { held := [], reserved := [], qroom := false }
     port := { link := 0, last := false, underrun := false, overrun := false, denied := false }
     mover := {
       a := { link := 0, addr := 0, count := 0, mode := false, running := false, dir := .output, moved := 0
              stopPending := none, addrHold := 0, countHold := 0 }
       b := { link := 0, addr := 0, count := 0, mode := false, running := false, dir := .output, moved := 0
              stopPending := none, addrHold := 0, countHold := 0 }
       lastServed := .b
       move := none }
     window := { index := 0, cmdErr := false, refuse := none, purged := 0, sSel := 0, lSel := 0, countHold := 0
                 totalHold := 0 }
     settings := {
       clocked := true, scan := true, step := false, intJob := false, intAsk := false, intMover := false, intQroom := false
       tAnswer := 32, tFrame := 8, tTurn := 16, busyLimit := 3, frameLimit := 2, busyDelay := 10, rstPulse := 4
       clkRate := 1, jKind := 0, jTag := 0, jLink := 0, jStation := 0, jChan := 0, jPages := 0, jLimitL := 0, jLimitH := 0 }
     pins := { askLine := s.pins.askLine, bgnt := s.pins.bgnt, readData := 0, hostWrite := none }
     freeTick := s.freeTick
     pending := s.pending }) ∧
  (∀ (s : State) (i : Byte), ∃ t u v, exec .pinReset s = .next t ∧ t.intLine = false ∧ t.breqLine = false ∧
     t.statusByte = (if s.pins.askLine then 0x48 else 0x08) ∧
     exec (.indexWrite i) t = .next u ∧ exec .dataRead u = .next v ∧
     v.pins.readData = (match i.toNat % 64 with
       | 0 => 0x03
       | 2 => 32
       | 3 => 8
       | 4 => 16
       | 5 => 0x23
       | 6 => 10
       | 7 => 4
       | 8 => 1
       | 45 => 16
       | _ => 0))

/-! ### Laws every step keeps -/

/-- The laws of the job queue and of the station bus (R86, R2, R89). -/
def Obligations.StepKeepsBusLaw : Prop :=
  ∀ s t : State, s.QueueLaw → s.BusLaw → step s = .next t → t.QueueLaw ∧ t.BusLaw

/-- The law of event slots: no event is ever lost for want of room (R133). -/
def Obligations.StepKeepsSlotLaw : Prop :=
  ∀ s t : State, s.QueueLaw → s.BusLaw → s.SlotLaw → step s = .next t → t.SlotLaw

/-- The law of the pages (R59, R60, R61). -/
def Obligations.StepKeepsPageLaw : Prop :=
  ∀ s t : State, s.PageLaw → step s = .next t → t.PageLaw

/-- The law of endpoints, with the law of Opening and Shutting that carries it (R63, R68). -/
def Obligations.StepKeepsEndpointLaw : Prop :=
  ∀ s t : State, s.QueueLaw → s.BusLaw → s.LinkJobLaw → s.EndpointLaw → step s = .next t →
    t.LinkJobLaw ∧ t.EndpointLaw

/-- The law of mover bindings (R80). -/
def Obligations.StepKeepsHolderLaw : Prop :=
  ∀ s t : State, s.HolderLaw → step s = .next t → t.HolderLaw

/-- The law of ring contents: no ring overflows and no mark list holds more than 8 marks (R70); with it the law of the
limit, which it rests on: no PUT or TAKE moves more than its limit (R102). -/
def Obligations.StepKeepsRingLaw : Prop :=
  ∀ s t : State, s.QueueLaw → s.BusLaw → s.HolderLaw → s.LimitLaw → s.RingLaw → step s = .next t →
    t.LimitLaw ∧ t.RingLaw

/-- The law of pace and of demotion, and the law of the scan context (R22, R50, R118). -/
def Obligations.StepKeepsPaceLaw : Prop :=
  ∀ s t : State, step s = .next t →
    (s.QueueLaw → s.BusLaw → s.PaceLaw → t.PaceLaw) ∧ (s.scanFits = true → t.scanFits = true)

/-- Every law holds right after pin reset. -/
def Obligations.ResetIsLawful : Prop :=
  State.reset.Lawful

/-- The law of job reporting: but for POST, POP, PURGE and the resets, every command keeps the number of jobs in the
queue plus JOB events held, so that a job leaves the queue with exactly one JOB event (R115, log 2). -/
def Obligations.JobTallyIsKept : Prop :=
  ∀ (c : Instr) (s t : State), c ∉ [.post, .pop, .purge, .softReset, .pinReset] → c.wellFormed = true →
    exec c s = .next t → t.jobTally = s.jobTally

/-- No header built at an event carries the pace request for a station that is not Clocked-capable or is demoted, or
while CFG.CLOCKED is clear, whether or not the event also ends another exchange (R22, R51, R96). -/
def Obligations.PaceRequestNeedsClockedStation : Prop :=
  ∀ (c : Instr) (s t : State) (e : Exchange), exec c s = .next t → t.exchange = some e → s.exchange ≠ some e →
    (s.exchange = none ∨ e.phase = .header) → e.paceRequest = true →
    (e.kind = .put ∨ e.kind = .take) ∧ (t.station e.station).capability = .clockedCapable ∧
      (t.station e.station).demoted = false ∧ t.settings.clocked = true
end

