-- ==== Sys2Proof/Laws/State.lean ====
section
/-! SUPPORT. What each named update of the state leaves in each field: true by unfolding, so that no later proof unfolds a
record update. -/

namespace Sys2Proof.Machine

/-! ### `State.setBus` -/

@[simp] theorem State.setBus_bus (s : State) (x : BusUnit) : (s.setBus x).bus = x := rfl
@[simp] theorem State.setBus_exchange (s : State) (x : BusUnit) : (s.setBus x).exchange = s.exchange := rfl
@[simp] theorem State.setBus_stations (s : State) (x : BusUnit) : (s.setBus x).stations = s.stations := rfl
@[simp] theorem State.setBus_links (s : State) (x : BusUnit) : (s.setBus x).links = s.links := rfl
@[simp] theorem State.setBus_freePages (s : State) (x : BusUnit) : (s.setBus x).freePages = s.freePages := rfl
@[simp] theorem State.setBus_jobs (s : State) (x : BusUnit) : (s.setBus x).jobs = s.jobs := rfl
@[simp] theorem State.setBus_active (s : State) (x : BusUnit) : (s.setBus x).active = s.active := rfl
@[simp] theorem State.setBus_seq (s : State) (x : BusUnit) : (s.setBus x).seq = s.seq := rfl
@[simp] theorem State.setBus_attention (s : State) (x : BusUnit) : (s.setBus x).attention = s.attention := rfl
@[simp] theorem State.setBus_events (s : State) (x : BusUnit) : (s.setBus x).events = s.events := rfl
@[simp] theorem State.setBus_port (s : State) (x : BusUnit) : (s.setBus x).port = s.port := rfl
@[simp] theorem State.setBus_mover (s : State) (x : BusUnit) : (s.setBus x).mover = s.mover := rfl
@[simp] theorem State.setBus_window (s : State) (x : BusUnit) : (s.setBus x).window = s.window := rfl
@[simp] theorem State.setBus_settings (s : State) (x : BusUnit) : (s.setBus x).settings = s.settings := rfl
@[simp] theorem State.setBus_pins (s : State) (x : BusUnit) : (s.setBus x).pins = s.pins := rfl
@[simp] theorem State.setBus_freeTick (s : State) (x : BusUnit) : (s.setBus x).freeTick = s.freeTick := rfl
@[simp] theorem State.setBus_pending (s : State) (x : BusUnit) : (s.setBus x).pending = s.pending := rfl

/-! ### `State.setExchange` -/

@[simp] theorem State.setExchange_bus (s : State) (x : Option Exchange) : (s.setExchange x).bus = s.bus := rfl
@[simp] theorem State.setExchange_exchange (s : State) (x : Option Exchange) : (s.setExchange x).exchange = x := rfl
@[simp] theorem State.setExchange_stations (s : State) (x : Option Exchange) : (s.setExchange x).stations = s.stations := rfl
@[simp] theorem State.setExchange_links (s : State) (x : Option Exchange) : (s.setExchange x).links = s.links := rfl
@[simp] theorem State.setExchange_freePages (s : State) (x : Option Exchange) : (s.setExchange x).freePages = s.freePages := rfl
@[simp] theorem State.setExchange_jobs (s : State) (x : Option Exchange) : (s.setExchange x).jobs = s.jobs := rfl
@[simp] theorem State.setExchange_active (s : State) (x : Option Exchange) : (s.setExchange x).active = s.active := rfl
@[simp] theorem State.setExchange_seq (s : State) (x : Option Exchange) : (s.setExchange x).seq = s.seq := rfl
@[simp] theorem State.setExchange_attention (s : State) (x : Option Exchange) : (s.setExchange x).attention = s.attention := rfl
@[simp] theorem State.setExchange_events (s : State) (x : Option Exchange) : (s.setExchange x).events = s.events := rfl
@[simp] theorem State.setExchange_port (s : State) (x : Option Exchange) : (s.setExchange x).port = s.port := rfl
@[simp] theorem State.setExchange_mover (s : State) (x : Option Exchange) : (s.setExchange x).mover = s.mover := rfl
@[simp] theorem State.setExchange_window (s : State) (x : Option Exchange) : (s.setExchange x).window = s.window := rfl
@[simp] theorem State.setExchange_settings (s : State) (x : Option Exchange) : (s.setExchange x).settings = s.settings := rfl
@[simp] theorem State.setExchange_pins (s : State) (x : Option Exchange) : (s.setExchange x).pins = s.pins := rfl
@[simp] theorem State.setExchange_freeTick (s : State) (x : Option Exchange) : (s.setExchange x).freeTick = s.freeTick := rfl
@[simp] theorem State.setExchange_pending (s : State) (x : Option Exchange) : (s.setExchange x).pending = s.pending := rfl

/-! ### `State.setStations` -/

@[simp] theorem State.setStations_bus (s : State) (x : Vector Station Config.stationCount) : (s.setStations x).bus = s.bus := rfl
@[simp] theorem State.setStations_exchange (s : State) (x : Vector Station Config.stationCount) : (s.setStations x).exchange = s.exchange := rfl
@[simp] theorem State.setStations_stations (s : State) (x : Vector Station Config.stationCount) : (s.setStations x).stations = x := rfl
@[simp] theorem State.setStations_links (s : State) (x : Vector Station Config.stationCount) : (s.setStations x).links = s.links := rfl
@[simp] theorem State.setStations_freePages (s : State) (x : Vector Station Config.stationCount) : (s.setStations x).freePages = s.freePages := rfl
@[simp] theorem State.setStations_jobs (s : State) (x : Vector Station Config.stationCount) : (s.setStations x).jobs = s.jobs := rfl
@[simp] theorem State.setStations_active (s : State) (x : Vector Station Config.stationCount) : (s.setStations x).active = s.active := rfl
@[simp] theorem State.setStations_seq (s : State) (x : Vector Station Config.stationCount) : (s.setStations x).seq = s.seq := rfl
@[simp] theorem State.setStations_attention (s : State) (x : Vector Station Config.stationCount) : (s.setStations x).attention = s.attention := rfl
@[simp] theorem State.setStations_events (s : State) (x : Vector Station Config.stationCount) : (s.setStations x).events = s.events := rfl
@[simp] theorem State.setStations_port (s : State) (x : Vector Station Config.stationCount) : (s.setStations x).port = s.port := rfl
@[simp] theorem State.setStations_mover (s : State) (x : Vector Station Config.stationCount) : (s.setStations x).mover = s.mover := rfl
@[simp] theorem State.setStations_window (s : State) (x : Vector Station Config.stationCount) : (s.setStations x).window = s.window := rfl
@[simp] theorem State.setStations_settings (s : State) (x : Vector Station Config.stationCount) : (s.setStations x).settings = s.settings := rfl
@[simp] theorem State.setStations_pins (s : State) (x : Vector Station Config.stationCount) : (s.setStations x).pins = s.pins := rfl
@[simp] theorem State.setStations_freeTick (s : State) (x : Vector Station Config.stationCount) : (s.setStations x).freeTick = s.freeTick := rfl
@[simp] theorem State.setStations_pending (s : State) (x : Vector Station Config.stationCount) : (s.setStations x).pending = s.pending := rfl

/-! ### `State.setLinks` -/

@[simp] theorem State.setLinks_bus (s : State) (x : Vector Link Config.linkCount) : (s.setLinks x).bus = s.bus := rfl
@[simp] theorem State.setLinks_exchange (s : State) (x : Vector Link Config.linkCount) : (s.setLinks x).exchange = s.exchange := rfl
@[simp] theorem State.setLinks_stations (s : State) (x : Vector Link Config.linkCount) : (s.setLinks x).stations = s.stations := rfl
@[simp] theorem State.setLinks_links (s : State) (x : Vector Link Config.linkCount) : (s.setLinks x).links = x := rfl
@[simp] theorem State.setLinks_freePages (s : State) (x : Vector Link Config.linkCount) : (s.setLinks x).freePages = s.freePages := rfl
@[simp] theorem State.setLinks_jobs (s : State) (x : Vector Link Config.linkCount) : (s.setLinks x).jobs = s.jobs := rfl
@[simp] theorem State.setLinks_active (s : State) (x : Vector Link Config.linkCount) : (s.setLinks x).active = s.active := rfl
@[simp] theorem State.setLinks_seq (s : State) (x : Vector Link Config.linkCount) : (s.setLinks x).seq = s.seq := rfl
@[simp] theorem State.setLinks_attention (s : State) (x : Vector Link Config.linkCount) : (s.setLinks x).attention = s.attention := rfl
@[simp] theorem State.setLinks_events (s : State) (x : Vector Link Config.linkCount) : (s.setLinks x).events = s.events := rfl
@[simp] theorem State.setLinks_port (s : State) (x : Vector Link Config.linkCount) : (s.setLinks x).port = s.port := rfl
@[simp] theorem State.setLinks_mover (s : State) (x : Vector Link Config.linkCount) : (s.setLinks x).mover = s.mover := rfl
@[simp] theorem State.setLinks_window (s : State) (x : Vector Link Config.linkCount) : (s.setLinks x).window = s.window := rfl
@[simp] theorem State.setLinks_settings (s : State) (x : Vector Link Config.linkCount) : (s.setLinks x).settings = s.settings := rfl
@[simp] theorem State.setLinks_pins (s : State) (x : Vector Link Config.linkCount) : (s.setLinks x).pins = s.pins := rfl
@[simp] theorem State.setLinks_freeTick (s : State) (x : Vector Link Config.linkCount) : (s.setLinks x).freeTick = s.freeTick := rfl
@[simp] theorem State.setLinks_pending (s : State) (x : Vector Link Config.linkCount) : (s.setLinks x).pending = s.pending := rfl

/-! ### `State.setFreePages` -/

@[simp] theorem State.setFreePages_bus (s : State) (x : List Page) : (s.setFreePages x).bus = s.bus := rfl
@[simp] theorem State.setFreePages_exchange (s : State) (x : List Page) : (s.setFreePages x).exchange = s.exchange := rfl
@[simp] theorem State.setFreePages_stations (s : State) (x : List Page) : (s.setFreePages x).stations = s.stations := rfl
@[simp] theorem State.setFreePages_links (s : State) (x : List Page) : (s.setFreePages x).links = s.links := rfl
@[simp] theorem State.setFreePages_freePages (s : State) (x : List Page) : (s.setFreePages x).freePages = x := rfl
@[simp] theorem State.setFreePages_jobs (s : State) (x : List Page) : (s.setFreePages x).jobs = s.jobs := rfl
@[simp] theorem State.setFreePages_active (s : State) (x : List Page) : (s.setFreePages x).active = s.active := rfl
@[simp] theorem State.setFreePages_seq (s : State) (x : List Page) : (s.setFreePages x).seq = s.seq := rfl
@[simp] theorem State.setFreePages_attention (s : State) (x : List Page) : (s.setFreePages x).attention = s.attention := rfl
@[simp] theorem State.setFreePages_events (s : State) (x : List Page) : (s.setFreePages x).events = s.events := rfl
@[simp] theorem State.setFreePages_port (s : State) (x : List Page) : (s.setFreePages x).port = s.port := rfl
@[simp] theorem State.setFreePages_mover (s : State) (x : List Page) : (s.setFreePages x).mover = s.mover := rfl
@[simp] theorem State.setFreePages_window (s : State) (x : List Page) : (s.setFreePages x).window = s.window := rfl
@[simp] theorem State.setFreePages_settings (s : State) (x : List Page) : (s.setFreePages x).settings = s.settings := rfl
@[simp] theorem State.setFreePages_pins (s : State) (x : List Page) : (s.setFreePages x).pins = s.pins := rfl
@[simp] theorem State.setFreePages_freeTick (s : State) (x : List Page) : (s.setFreePages x).freeTick = s.freeTick := rfl
@[simp] theorem State.setFreePages_pending (s : State) (x : List Page) : (s.setFreePages x).pending = s.pending := rfl

/-! ### `State.setJobs` -/

@[simp] theorem State.setJobs_bus (s : State) (x : List Job) : (s.setJobs x).bus = s.bus := rfl
@[simp] theorem State.setJobs_exchange (s : State) (x : List Job) : (s.setJobs x).exchange = s.exchange := rfl
@[simp] theorem State.setJobs_stations (s : State) (x : List Job) : (s.setJobs x).stations = s.stations := rfl
@[simp] theorem State.setJobs_links (s : State) (x : List Job) : (s.setJobs x).links = s.links := rfl
@[simp] theorem State.setJobs_freePages (s : State) (x : List Job) : (s.setJobs x).freePages = s.freePages := rfl
@[simp] theorem State.setJobs_jobs (s : State) (x : List Job) : (s.setJobs x).jobs = x := rfl
@[simp] theorem State.setJobs_active (s : State) (x : List Job) : (s.setJobs x).active = s.active := rfl
@[simp] theorem State.setJobs_seq (s : State) (x : List Job) : (s.setJobs x).seq = s.seq := rfl
@[simp] theorem State.setJobs_attention (s : State) (x : List Job) : (s.setJobs x).attention = s.attention := rfl
@[simp] theorem State.setJobs_events (s : State) (x : List Job) : (s.setJobs x).events = s.events := rfl
@[simp] theorem State.setJobs_port (s : State) (x : List Job) : (s.setJobs x).port = s.port := rfl
@[simp] theorem State.setJobs_mover (s : State) (x : List Job) : (s.setJobs x).mover = s.mover := rfl
@[simp] theorem State.setJobs_window (s : State) (x : List Job) : (s.setJobs x).window = s.window := rfl
@[simp] theorem State.setJobs_settings (s : State) (x : List Job) : (s.setJobs x).settings = s.settings := rfl
@[simp] theorem State.setJobs_pins (s : State) (x : List Job) : (s.setJobs x).pins = s.pins := rfl
@[simp] theorem State.setJobs_freeTick (s : State) (x : List Job) : (s.setJobs x).freeTick = s.freeTick := rfl
@[simp] theorem State.setJobs_pending (s : State) (x : List Job) : (s.setJobs x).pending = s.pending := rfl

/-! ### `State.setActive` -/

@[simp] theorem State.setActive_bus (s : State) (x : Option JobContext) : (s.setActive x).bus = s.bus := rfl
@[simp] theorem State.setActive_exchange (s : State) (x : Option JobContext) : (s.setActive x).exchange = s.exchange := rfl
@[simp] theorem State.setActive_stations (s : State) (x : Option JobContext) : (s.setActive x).stations = s.stations := rfl
@[simp] theorem State.setActive_links (s : State) (x : Option JobContext) : (s.setActive x).links = s.links := rfl
@[simp] theorem State.setActive_freePages (s : State) (x : Option JobContext) : (s.setActive x).freePages = s.freePages := rfl
@[simp] theorem State.setActive_jobs (s : State) (x : Option JobContext) : (s.setActive x).jobs = s.jobs := rfl
@[simp] theorem State.setActive_active (s : State) (x : Option JobContext) : (s.setActive x).active = x := rfl
@[simp] theorem State.setActive_seq (s : State) (x : Option JobContext) : (s.setActive x).seq = s.seq := rfl
@[simp] theorem State.setActive_attention (s : State) (x : Option JobContext) : (s.setActive x).attention = s.attention := rfl
@[simp] theorem State.setActive_events (s : State) (x : Option JobContext) : (s.setActive x).events = s.events := rfl
@[simp] theorem State.setActive_port (s : State) (x : Option JobContext) : (s.setActive x).port = s.port := rfl
@[simp] theorem State.setActive_mover (s : State) (x : Option JobContext) : (s.setActive x).mover = s.mover := rfl
@[simp] theorem State.setActive_window (s : State) (x : Option JobContext) : (s.setActive x).window = s.window := rfl
@[simp] theorem State.setActive_settings (s : State) (x : Option JobContext) : (s.setActive x).settings = s.settings := rfl
@[simp] theorem State.setActive_pins (s : State) (x : Option JobContext) : (s.setActive x).pins = s.pins := rfl
@[simp] theorem State.setActive_freeTick (s : State) (x : Option JobContext) : (s.setActive x).freeTick = s.freeTick := rfl
@[simp] theorem State.setActive_pending (s : State) (x : Option JobContext) : (s.setActive x).pending = s.pending := rfl

/-! ### `State.setSeq` -/

@[simp] theorem State.setSeq_bus (s : State) (x : Sequencer) : (s.setSeq x).bus = s.bus := rfl
@[simp] theorem State.setSeq_exchange (s : State) (x : Sequencer) : (s.setSeq x).exchange = s.exchange := rfl
@[simp] theorem State.setSeq_stations (s : State) (x : Sequencer) : (s.setSeq x).stations = s.stations := rfl
@[simp] theorem State.setSeq_links (s : State) (x : Sequencer) : (s.setSeq x).links = s.links := rfl
@[simp] theorem State.setSeq_freePages (s : State) (x : Sequencer) : (s.setSeq x).freePages = s.freePages := rfl
@[simp] theorem State.setSeq_jobs (s : State) (x : Sequencer) : (s.setSeq x).jobs = s.jobs := rfl
@[simp] theorem State.setSeq_active (s : State) (x : Sequencer) : (s.setSeq x).active = s.active := rfl
@[simp] theorem State.setSeq_seq (s : State) (x : Sequencer) : (s.setSeq x).seq = x := rfl
@[simp] theorem State.setSeq_attention (s : State) (x : Sequencer) : (s.setSeq x).attention = s.attention := rfl
@[simp] theorem State.setSeq_events (s : State) (x : Sequencer) : (s.setSeq x).events = s.events := rfl
@[simp] theorem State.setSeq_port (s : State) (x : Sequencer) : (s.setSeq x).port = s.port := rfl
@[simp] theorem State.setSeq_mover (s : State) (x : Sequencer) : (s.setSeq x).mover = s.mover := rfl
@[simp] theorem State.setSeq_window (s : State) (x : Sequencer) : (s.setSeq x).window = s.window := rfl
@[simp] theorem State.setSeq_settings (s : State) (x : Sequencer) : (s.setSeq x).settings = s.settings := rfl
@[simp] theorem State.setSeq_pins (s : State) (x : Sequencer) : (s.setSeq x).pins = s.pins := rfl
@[simp] theorem State.setSeq_freeTick (s : State) (x : Sequencer) : (s.setSeq x).freeTick = s.freeTick := rfl
@[simp] theorem State.setSeq_pending (s : State) (x : Sequencer) : (s.setSeq x).pending = s.pending := rfl

/-! ### `State.setAttention` -/

@[simp] theorem State.setAttention_bus (s : State) (x : Attention) : (s.setAttention x).bus = s.bus := rfl
@[simp] theorem State.setAttention_exchange (s : State) (x : Attention) : (s.setAttention x).exchange = s.exchange := rfl
@[simp] theorem State.setAttention_stations (s : State) (x : Attention) : (s.setAttention x).stations = s.stations := rfl
@[simp] theorem State.setAttention_links (s : State) (x : Attention) : (s.setAttention x).links = s.links := rfl
@[simp] theorem State.setAttention_freePages (s : State) (x : Attention) : (s.setAttention x).freePages = s.freePages := rfl
@[simp] theorem State.setAttention_jobs (s : State) (x : Attention) : (s.setAttention x).jobs = s.jobs := rfl
@[simp] theorem State.setAttention_active (s : State) (x : Attention) : (s.setAttention x).active = s.active := rfl
@[simp] theorem State.setAttention_seq (s : State) (x : Attention) : (s.setAttention x).seq = s.seq := rfl
@[simp] theorem State.setAttention_attention (s : State) (x : Attention) : (s.setAttention x).attention = x := rfl
@[simp] theorem State.setAttention_events (s : State) (x : Attention) : (s.setAttention x).events = s.events := rfl
@[simp] theorem State.setAttention_port (s : State) (x : Attention) : (s.setAttention x).port = s.port := rfl
@[simp] theorem State.setAttention_mover (s : State) (x : Attention) : (s.setAttention x).mover = s.mover := rfl
@[simp] theorem State.setAttention_window (s : State) (x : Attention) : (s.setAttention x).window = s.window := rfl
@[simp] theorem State.setAttention_settings (s : State) (x : Attention) : (s.setAttention x).settings = s.settings := rfl
@[simp] theorem State.setAttention_pins (s : State) (x : Attention) : (s.setAttention x).pins = s.pins := rfl
@[simp] theorem State.setAttention_freeTick (s : State) (x : Attention) : (s.setAttention x).freeTick = s.freeTick := rfl
@[simp] theorem State.setAttention_pending (s : State) (x : Attention) : (s.setAttention x).pending = s.pending := rfl

/-! ### `State.setEvents` -/

@[simp] theorem State.setEvents_bus (s : State) (x : EventQueue) : (s.setEvents x).bus = s.bus := rfl
@[simp] theorem State.setEvents_exchange (s : State) (x : EventQueue) : (s.setEvents x).exchange = s.exchange := rfl
@[simp] theorem State.setEvents_stations (s : State) (x : EventQueue) : (s.setEvents x).stations = s.stations := rfl
@[simp] theorem State.setEvents_links (s : State) (x : EventQueue) : (s.setEvents x).links = s.links := rfl
@[simp] theorem State.setEvents_freePages (s : State) (x : EventQueue) : (s.setEvents x).freePages = s.freePages := rfl
@[simp] theorem State.setEvents_jobs (s : State) (x : EventQueue) : (s.setEvents x).jobs = s.jobs := rfl
@[simp] theorem State.setEvents_active (s : State) (x : EventQueue) : (s.setEvents x).active = s.active := rfl
@[simp] theorem State.setEvents_seq (s : State) (x : EventQueue) : (s.setEvents x).seq = s.seq := rfl
@[simp] theorem State.setEvents_attention (s : State) (x : EventQueue) : (s.setEvents x).attention = s.attention := rfl
@[simp] theorem State.setEvents_events (s : State) (x : EventQueue) : (s.setEvents x).events = x := rfl
@[simp] theorem State.setEvents_port (s : State) (x : EventQueue) : (s.setEvents x).port = s.port := rfl
@[simp] theorem State.setEvents_mover (s : State) (x : EventQueue) : (s.setEvents x).mover = s.mover := rfl
@[simp] theorem State.setEvents_window (s : State) (x : EventQueue) : (s.setEvents x).window = s.window := rfl
@[simp] theorem State.setEvents_settings (s : State) (x : EventQueue) : (s.setEvents x).settings = s.settings := rfl
@[simp] theorem State.setEvents_pins (s : State) (x : EventQueue) : (s.setEvents x).pins = s.pins := rfl
@[simp] theorem State.setEvents_freeTick (s : State) (x : EventQueue) : (s.setEvents x).freeTick = s.freeTick := rfl
@[simp] theorem State.setEvents_pending (s : State) (x : EventQueue) : (s.setEvents x).pending = s.pending := rfl

/-! ### `State.setPort` -/

@[simp] theorem State.setPort_bus (s : State) (x : Port) : (s.setPort x).bus = s.bus := rfl
@[simp] theorem State.setPort_exchange (s : State) (x : Port) : (s.setPort x).exchange = s.exchange := rfl
@[simp] theorem State.setPort_stations (s : State) (x : Port) : (s.setPort x).stations = s.stations := rfl
@[simp] theorem State.setPort_links (s : State) (x : Port) : (s.setPort x).links = s.links := rfl
@[simp] theorem State.setPort_freePages (s : State) (x : Port) : (s.setPort x).freePages = s.freePages := rfl
@[simp] theorem State.setPort_jobs (s : State) (x : Port) : (s.setPort x).jobs = s.jobs := rfl
@[simp] theorem State.setPort_active (s : State) (x : Port) : (s.setPort x).active = s.active := rfl
@[simp] theorem State.setPort_seq (s : State) (x : Port) : (s.setPort x).seq = s.seq := rfl
@[simp] theorem State.setPort_attention (s : State) (x : Port) : (s.setPort x).attention = s.attention := rfl
@[simp] theorem State.setPort_events (s : State) (x : Port) : (s.setPort x).events = s.events := rfl
@[simp] theorem State.setPort_port (s : State) (x : Port) : (s.setPort x).port = x := rfl
@[simp] theorem State.setPort_mover (s : State) (x : Port) : (s.setPort x).mover = s.mover := rfl
@[simp] theorem State.setPort_window (s : State) (x : Port) : (s.setPort x).window = s.window := rfl
@[simp] theorem State.setPort_settings (s : State) (x : Port) : (s.setPort x).settings = s.settings := rfl
@[simp] theorem State.setPort_pins (s : State) (x : Port) : (s.setPort x).pins = s.pins := rfl
@[simp] theorem State.setPort_freeTick (s : State) (x : Port) : (s.setPort x).freeTick = s.freeTick := rfl
@[simp] theorem State.setPort_pending (s : State) (x : Port) : (s.setPort x).pending = s.pending := rfl

/-! ### `State.setMover` -/

@[simp] theorem State.setMover_bus (s : State) (x : Mover) : (s.setMover x).bus = s.bus := rfl
@[simp] theorem State.setMover_exchange (s : State) (x : Mover) : (s.setMover x).exchange = s.exchange := rfl
@[simp] theorem State.setMover_stations (s : State) (x : Mover) : (s.setMover x).stations = s.stations := rfl
@[simp] theorem State.setMover_links (s : State) (x : Mover) : (s.setMover x).links = s.links := rfl
@[simp] theorem State.setMover_freePages (s : State) (x : Mover) : (s.setMover x).freePages = s.freePages := rfl
@[simp] theorem State.setMover_jobs (s : State) (x : Mover) : (s.setMover x).jobs = s.jobs := rfl
@[simp] theorem State.setMover_active (s : State) (x : Mover) : (s.setMover x).active = s.active := rfl
@[simp] theorem State.setMover_seq (s : State) (x : Mover) : (s.setMover x).seq = s.seq := rfl
@[simp] theorem State.setMover_attention (s : State) (x : Mover) : (s.setMover x).attention = s.attention := rfl
@[simp] theorem State.setMover_events (s : State) (x : Mover) : (s.setMover x).events = s.events := rfl
@[simp] theorem State.setMover_port (s : State) (x : Mover) : (s.setMover x).port = s.port := rfl
@[simp] theorem State.setMover_mover (s : State) (x : Mover) : (s.setMover x).mover = x := rfl
@[simp] theorem State.setMover_window (s : State) (x : Mover) : (s.setMover x).window = s.window := rfl
@[simp] theorem State.setMover_settings (s : State) (x : Mover) : (s.setMover x).settings = s.settings := rfl
@[simp] theorem State.setMover_pins (s : State) (x : Mover) : (s.setMover x).pins = s.pins := rfl
@[simp] theorem State.setMover_freeTick (s : State) (x : Mover) : (s.setMover x).freeTick = s.freeTick := rfl
@[simp] theorem State.setMover_pending (s : State) (x : Mover) : (s.setMover x).pending = s.pending := rfl

/-! ### `State.setWindow` -/

@[simp] theorem State.setWindow_bus (s : State) (x : Window) : (s.setWindow x).bus = s.bus := rfl
@[simp] theorem State.setWindow_exchange (s : State) (x : Window) : (s.setWindow x).exchange = s.exchange := rfl
@[simp] theorem State.setWindow_stations (s : State) (x : Window) : (s.setWindow x).stations = s.stations := rfl
@[simp] theorem State.setWindow_links (s : State) (x : Window) : (s.setWindow x).links = s.links := rfl
@[simp] theorem State.setWindow_freePages (s : State) (x : Window) : (s.setWindow x).freePages = s.freePages := rfl
@[simp] theorem State.setWindow_jobs (s : State) (x : Window) : (s.setWindow x).jobs = s.jobs := rfl
@[simp] theorem State.setWindow_active (s : State) (x : Window) : (s.setWindow x).active = s.active := rfl
@[simp] theorem State.setWindow_seq (s : State) (x : Window) : (s.setWindow x).seq = s.seq := rfl
@[simp] theorem State.setWindow_attention (s : State) (x : Window) : (s.setWindow x).attention = s.attention := rfl
@[simp] theorem State.setWindow_events (s : State) (x : Window) : (s.setWindow x).events = s.events := rfl
@[simp] theorem State.setWindow_port (s : State) (x : Window) : (s.setWindow x).port = s.port := rfl
@[simp] theorem State.setWindow_mover (s : State) (x : Window) : (s.setWindow x).mover = s.mover := rfl
@[simp] theorem State.setWindow_window (s : State) (x : Window) : (s.setWindow x).window = x := rfl
@[simp] theorem State.setWindow_settings (s : State) (x : Window) : (s.setWindow x).settings = s.settings := rfl
@[simp] theorem State.setWindow_pins (s : State) (x : Window) : (s.setWindow x).pins = s.pins := rfl
@[simp] theorem State.setWindow_freeTick (s : State) (x : Window) : (s.setWindow x).freeTick = s.freeTick := rfl
@[simp] theorem State.setWindow_pending (s : State) (x : Window) : (s.setWindow x).pending = s.pending := rfl

/-! ### `State.setSettings` -/

@[simp] theorem State.setSettings_bus (s : State) (x : Settings) : (s.setSettings x).bus = s.bus := rfl
@[simp] theorem State.setSettings_exchange (s : State) (x : Settings) : (s.setSettings x).exchange = s.exchange := rfl
@[simp] theorem State.setSettings_stations (s : State) (x : Settings) : (s.setSettings x).stations = s.stations := rfl
@[simp] theorem State.setSettings_links (s : State) (x : Settings) : (s.setSettings x).links = s.links := rfl
@[simp] theorem State.setSettings_freePages (s : State) (x : Settings) : (s.setSettings x).freePages = s.freePages := rfl
@[simp] theorem State.setSettings_jobs (s : State) (x : Settings) : (s.setSettings x).jobs = s.jobs := rfl
@[simp] theorem State.setSettings_active (s : State) (x : Settings) : (s.setSettings x).active = s.active := rfl
@[simp] theorem State.setSettings_seq (s : State) (x : Settings) : (s.setSettings x).seq = s.seq := rfl
@[simp] theorem State.setSettings_attention (s : State) (x : Settings) : (s.setSettings x).attention = s.attention := rfl
@[simp] theorem State.setSettings_events (s : State) (x : Settings) : (s.setSettings x).events = s.events := rfl
@[simp] theorem State.setSettings_port (s : State) (x : Settings) : (s.setSettings x).port = s.port := rfl
@[simp] theorem State.setSettings_mover (s : State) (x : Settings) : (s.setSettings x).mover = s.mover := rfl
@[simp] theorem State.setSettings_window (s : State) (x : Settings) : (s.setSettings x).window = s.window := rfl
@[simp] theorem State.setSettings_settings (s : State) (x : Settings) : (s.setSettings x).settings = x := rfl
@[simp] theorem State.setSettings_pins (s : State) (x : Settings) : (s.setSettings x).pins = s.pins := rfl
@[simp] theorem State.setSettings_freeTick (s : State) (x : Settings) : (s.setSettings x).freeTick = s.freeTick := rfl
@[simp] theorem State.setSettings_pending (s : State) (x : Settings) : (s.setSettings x).pending = s.pending := rfl

/-! ### `State.setPins` -/

@[simp] theorem State.setPins_bus (s : State) (x : Pins) : (s.setPins x).bus = s.bus := rfl
@[simp] theorem State.setPins_exchange (s : State) (x : Pins) : (s.setPins x).exchange = s.exchange := rfl
@[simp] theorem State.setPins_stations (s : State) (x : Pins) : (s.setPins x).stations = s.stations := rfl
@[simp] theorem State.setPins_links (s : State) (x : Pins) : (s.setPins x).links = s.links := rfl
@[simp] theorem State.setPins_freePages (s : State) (x : Pins) : (s.setPins x).freePages = s.freePages := rfl
@[simp] theorem State.setPins_jobs (s : State) (x : Pins) : (s.setPins x).jobs = s.jobs := rfl
@[simp] theorem State.setPins_active (s : State) (x : Pins) : (s.setPins x).active = s.active := rfl
@[simp] theorem State.setPins_seq (s : State) (x : Pins) : (s.setPins x).seq = s.seq := rfl
@[simp] theorem State.setPins_attention (s : State) (x : Pins) : (s.setPins x).attention = s.attention := rfl
@[simp] theorem State.setPins_events (s : State) (x : Pins) : (s.setPins x).events = s.events := rfl
@[simp] theorem State.setPins_port (s : State) (x : Pins) : (s.setPins x).port = s.port := rfl
@[simp] theorem State.setPins_mover (s : State) (x : Pins) : (s.setPins x).mover = s.mover := rfl
@[simp] theorem State.setPins_window (s : State) (x : Pins) : (s.setPins x).window = s.window := rfl
@[simp] theorem State.setPins_settings (s : State) (x : Pins) : (s.setPins x).settings = s.settings := rfl
@[simp] theorem State.setPins_pins (s : State) (x : Pins) : (s.setPins x).pins = x := rfl
@[simp] theorem State.setPins_freeTick (s : State) (x : Pins) : (s.setPins x).freeTick = s.freeTick := rfl
@[simp] theorem State.setPins_pending (s : State) (x : Pins) : (s.setPins x).pending = s.pending := rfl

/-! ### `State.setFreeTick` -/

@[simp] theorem State.setFreeTick_bus (s : State) (x : Nat) : (s.setFreeTick x).bus = s.bus := rfl
@[simp] theorem State.setFreeTick_exchange (s : State) (x : Nat) : (s.setFreeTick x).exchange = s.exchange := rfl
@[simp] theorem State.setFreeTick_stations (s : State) (x : Nat) : (s.setFreeTick x).stations = s.stations := rfl
@[simp] theorem State.setFreeTick_links (s : State) (x : Nat) : (s.setFreeTick x).links = s.links := rfl
@[simp] theorem State.setFreeTick_freePages (s : State) (x : Nat) : (s.setFreeTick x).freePages = s.freePages := rfl
@[simp] theorem State.setFreeTick_jobs (s : State) (x : Nat) : (s.setFreeTick x).jobs = s.jobs := rfl
@[simp] theorem State.setFreeTick_active (s : State) (x : Nat) : (s.setFreeTick x).active = s.active := rfl
@[simp] theorem State.setFreeTick_seq (s : State) (x : Nat) : (s.setFreeTick x).seq = s.seq := rfl
@[simp] theorem State.setFreeTick_attention (s : State) (x : Nat) : (s.setFreeTick x).attention = s.attention := rfl
@[simp] theorem State.setFreeTick_events (s : State) (x : Nat) : (s.setFreeTick x).events = s.events := rfl
@[simp] theorem State.setFreeTick_port (s : State) (x : Nat) : (s.setFreeTick x).port = s.port := rfl
@[simp] theorem State.setFreeTick_mover (s : State) (x : Nat) : (s.setFreeTick x).mover = s.mover := rfl
@[simp] theorem State.setFreeTick_window (s : State) (x : Nat) : (s.setFreeTick x).window = s.window := rfl
@[simp] theorem State.setFreeTick_settings (s : State) (x : Nat) : (s.setFreeTick x).settings = s.settings := rfl
@[simp] theorem State.setFreeTick_pins (s : State) (x : Nat) : (s.setFreeTick x).pins = s.pins := rfl
@[simp] theorem State.setFreeTick_freeTick (s : State) (x : Nat) : (s.setFreeTick x).freeTick = x := rfl
@[simp] theorem State.setFreeTick_pending (s : State) (x : Nat) : (s.setFreeTick x).pending = s.pending := rfl

/-! ### `State.setPending` -/

@[simp] theorem State.setPending_bus (s : State) (x : List Instr) : (s.setPending x).bus = s.bus := rfl
@[simp] theorem State.setPending_exchange (s : State) (x : List Instr) : (s.setPending x).exchange = s.exchange := rfl
@[simp] theorem State.setPending_stations (s : State) (x : List Instr) : (s.setPending x).stations = s.stations := rfl
@[simp] theorem State.setPending_links (s : State) (x : List Instr) : (s.setPending x).links = s.links := rfl
@[simp] theorem State.setPending_freePages (s : State) (x : List Instr) : (s.setPending x).freePages = s.freePages := rfl
@[simp] theorem State.setPending_jobs (s : State) (x : List Instr) : (s.setPending x).jobs = s.jobs := rfl
@[simp] theorem State.setPending_active (s : State) (x : List Instr) : (s.setPending x).active = s.active := rfl
@[simp] theorem State.setPending_seq (s : State) (x : List Instr) : (s.setPending x).seq = s.seq := rfl
@[simp] theorem State.setPending_attention (s : State) (x : List Instr) : (s.setPending x).attention = s.attention := rfl
@[simp] theorem State.setPending_events (s : State) (x : List Instr) : (s.setPending x).events = s.events := rfl
@[simp] theorem State.setPending_port (s : State) (x : List Instr) : (s.setPending x).port = s.port := rfl
@[simp] theorem State.setPending_mover (s : State) (x : List Instr) : (s.setPending x).mover = s.mover := rfl
@[simp] theorem State.setPending_window (s : State) (x : List Instr) : (s.setPending x).window = s.window := rfl
@[simp] theorem State.setPending_settings (s : State) (x : List Instr) : (s.setPending x).settings = s.settings := rfl
@[simp] theorem State.setPending_pins (s : State) (x : List Instr) : (s.setPending x).pins = s.pins := rfl
@[simp] theorem State.setPending_freeTick (s : State) (x : List Instr) : (s.setPending x).freeTick = s.freeTick := rfl
@[simp] theorem State.setPending_pending (s : State) (x : List Instr) : (s.setPending x).pending = x := rfl

end Sys2Proof.Machine
end

