-- ==== Sys2Proof/Laws/Ops.lean ====
section
/-! SUPPORT. What the shared operations can do, said once each: the lemmas cite the operation, and proofs cite them in place
of unfolding it. -/

namespace Sys2Proof.Machine

/-! ### Tables -/

@[simp] theorem State.link_setLink_same (s : State) (i : LinkIndex) (x : Link) : (s.setLink i x).link i = x := by
  simp [State.link, State.setLink]

theorem State.link_setLink_other (s : State) (i k : LinkIndex) (x : Link) (h : k ≠ i) :
    (s.setLink i x).link k = s.link k := by
  have h' : i.val ≠ k.val := fun g => h (Fin.ext g.symm)
  simp [State.link, State.setLink, Vector.getElem_set_ne, h']

@[simp] theorem State.station_setStation_same (s : State) (i : StationIndex) (x : Station) :
    (s.setStation i x).station i = x := by
  simp [State.station, State.setStation]

theorem State.station_setStation_other (s : State) (i k : StationIndex) (x : Station) (h : k ≠ i) :
    (s.setStation i x).station k = s.station k := by
  have h' : i.val ≠ k.val := fun g => h (Fin.ext g.symm)
  simp [State.station, State.setStation, Vector.getElem_set_ne, h']

@[simp] theorem State.chan_setChan_same (s : State) (c : Chan) (x : Channel) : (s.setChan c x).chan c = x := by
  cases c <;> rfl

theorem State.chan_setChan_other (s : State) (c : Chan) (x : Channel) : (s.setChan c x).chan c.other = s.chan c.other := by
  cases c <;> rfl

/-- Every entry of a mapped table is the image of the entry at the same place. -/
theorem mapTable_getElem {α : Type} {n : Nat} (f : α → α) (v : Vector α n) (i : Nat) (h : i < n) :
    (mapTable f v)[i] = f v[i] := by
  simp [mapTable]

/-! ### The window (R169) and outcomes (R176) -/

/-- A window access answers a next state: the access whole, or the state as it was while the window is shut. -/
theorem onWindow_cases (f : State → State) (s : State) :
    (s.windowShut = false ∧ onWindow f s = .next (f s)) ∨ (s.windowShut = true ∧ onWindow f s = .next s) := by
  cases h : s.windowShut <;> simp [onWindow, h]

/-- Taken and refused outcomes change nothing but CMDERR and REFUSE. -/
theorem State.taken_eq (s : State) : s.taken = { s with window := { s.window with cmdErr := false } } := rfl

theorem State.refuse_eq (s : State) (r : Reason) :
    s.refuse r = { s with window := { s.window with cmdErr := true, refuse := some r } } := rfl

/-! ### Event slots (R133 to R135) -/

/-- A posting of a held reservation keeps events held plus reservations. -/
theorem State.post_keeps_slots (s : State) (h : Holder) (e : Event) (hm : h ∈ s.events.reserved) :
    (s.post h e).events.held.length + (s.post h e).events.reserved.length =
      s.events.held.length + s.events.reserved.length := by
  have hp : 0 < s.events.reserved.length := List.length_pos_of_mem hm
  simp [State.post, List.length_erase_of_mem hm]
  omega

/-- A reservation takes one slot more. -/
theorem State.reserve_slots (s : State) (h : Holder) :
    (s.reserve h).events.held = s.events.held ∧
      (s.reserve h).events.reserved.length = s.events.reserved.length + 1 := by
  simp [State.reserve]

/-- With no mover posting before it, a posting joins the tail. -/
theorem State.postAmong_zero (s : State) (h : Holder) (e : Event) : s.postAmong 0 h e = s.post h e := rfl

theorem insertIdx_before_last (l : List Event) (r e : Event) :
    (l ++ [r]).insertIdx (l.length + 1) e = l ++ [r, e] ∧ (l ++ [r]).insertIdx l.length e = l ++ [e, r] := by
  induction l with
  | nil => simp
  | cons x l ih => simp [ih]

/-- A posting among one record of the mover's joins before it or after it (R135, R142). -/
theorem State.postAmong_one (s : State) (h : Holder) (e r : Event) (l : List Event) (hl : s.events.held = l ++ [r]) :
    ∃ held ∈ [l ++ [r, e], l ++ [e, r]], s.postAmong 1 h e = { s with
      freeTick := s.freeTick + 1
      events := { s.events with held := held, reserved := s.events.reserved.erase h } } := by
  have hp : Config.postingOrder s.freeTick % 2 = 0 ∨ Config.postingOrder s.freeTick % 2 = 1 := by omega
  rcases hp with hp | hp
  · exact ⟨_, .head _, by
      simp [State.postAmong, hl, hp, State.setEvents, State.setFreeTick, insertIdx_before_last]⟩
  · exact ⟨_, .tail _ (.head _), by
      simp [State.postAmong, hl, hp, State.setEvents, State.setFreeTick, insertIdx_before_last]⟩

/-! ### The bus unit (R2, R16) -/

theorem BusUnit.request_of_free (b : BusUnit) (g : Settings) (r : BusRequest) (h : b.activity = .free) :
    b.request g r = match r with
      | .header => b.startClearing g
      | .pulse => b.startPulse g := by
  cases r <;> simp [BusUnit.request, h]

theorem BusUnit.toFree_of_nothing_waiting (b : BusUnit) (g : Settings) (h : b.waiting = none) : b.toFree g = b.inFree := by
  simp [BusUnit.toFree, BusUnit.inFree, h]

/-- A T-FRAME write leaves a wait as it was, or adds the value to what later runs of the frame may have read (R18). -/
theorem Wait.frameUnitsWritten_cases (w : Wait) (v : Byte) :
    w.frameUnitsWritten v = w ∨
      (w.timer = .frame ∧ w.slot = false ∧ v ∉ w.unitsRead ∧
        w.frameUnitsWritten v = { w with later := w.later ++ [v] }) := by
  unfold Wait.frameUnitsWritten; split
  · exact .inr ⟨by simp_all, by simp_all, by simp_all, rfl⟩
  · exact .inl rfl

theorem BusUnit.repeatSlot_eq (b : BusUnit) :
    b.repeatSlot = { b with timer := b.timer.map fun w => if w.timer = .frame then { w with slot := true } else w } := rfl

theorem BusUnit.startCut_of_not_pulsing (b : BusUnit) (h : b.activity ≠ .pulsing) : b.startCut = b.inCut := by
  simp [BusUnit.startCut, BusUnit.inCut, h]

theorem BusUnit.startCut_of_pulsing (b : BusUnit) (h : b.activity = .pulsing) : b.startCut = b := by
  simp [BusUnit.startCut, h]

/-! ### The arbiter (R90) -/

/-- The arbiter decides only while the sequencer is Idle. -/
theorem State.decide_of_not_idle (s : State) (h : s.seq.state ≠ .idle) : s.decide = s := by
  simp [State.decide, State.arbitrate, h]

/-- A decision follows an event exactly when the sequencer was not Idle before it. -/
theorem State.settle_of_not_idle (s t : State) (h : s.seq.state ≠ .idle) : State.settle s t = t.decide := by
  simp [State.settle, h]

theorem State.settle_of_idle (s t : State) (h : s.seq.state = .idle) : State.settle s t = t := by
  simp [State.settle, h]

/-- A report that reaches a bus unit not waiting for it, or no exchange, changes nothing (log 4). -/
theorem State.onReport_of_false (s : State) (f : Exchange → State) : s.onReport false f = s := by
  unfold State.onReport; split <;> simp

theorem State.onReport_of_no_exchange (s : State) (w : Bool) (f : Exchange → State) (h : s.exchange = none) :
    s.onReport w f = s := by
  simp [State.onReport, h]

/-! ### Rings (R73, R77) -/

/-- A push claim appends one byte, or leaves the record alone. -/
theorem Link.push_cases (l : Link) (who : Option Chan) (v : Byte) (mark : Bool) :
    (l.pushAllowed who = true ∧ 0 < l.space ∧ l.push who v mark = .appended (l.append v mark)) ∨
      (l.pushAllowed who = true ∧ l.space = 0 ∧ l.push who v mark = .noSpace) ∨
      (l.pushAllowed who = false ∧ l.push who v mark = .denied) := by
  unfold Link.push
  cases h : l.pushAllowed who
  · simp
  · by_cases g : l.space = 0
    · simp [g]
    · simp [g, Nat.pos_of_ne_zero g]

/-- A pop claim hands the oldest byte and drops it, or leaves the record alone. -/
theorem Link.pop_cases (l : Link) (who : Option Chan) :
    (∃ c rest, l.popAllowed who = true ∧ l.ring = c :: rest ∧ l.pop who = .handed c (l.dropOldest 1)) ∨
      (l.popAllowed who = true ∧ l.ring = [] ∧ l.pop who = .empty) ∨
      (l.popAllowed who = false ∧ l.pop who = .denied) := by
  unfold Link.pop
  cases h : l.popAllowed who
  · simp
  · cases g : l.ring <;> simp

/-- Bytes that leave a ring leave its space no smaller. -/
theorem Link.dropOldest_count (l : Link) (n : Nat) : (l.dropOldest n).count = l.count - n := by
  simp [Link.dropOldest, Link.count]

theorem Link.append_count (l : Link) (v : Byte) (mark : Bool) : (l.append v mark).count = l.count + 1 := by
  simp [Link.append, Link.count]

/-! ### Ends of runs and closes (R67, R166, R167) -/

/-- The MOVER event of a run is the record R132 and R167 spell out. -/
theorem Channel.runEvent_eq_stopRecord (ch : Channel) (c : Chan) (r : StopReason) : ch.runEvent c r = ch.stopRecord c r := by
  cases c <;> cases r <;> rfl

/-- What the end of a run does (R167). -/
theorem State.endRun_eq_afterRunEnd (s : State) (c : Chan) (r : StopReason) : s.endRun c r = s.afterRunEnd c r := by
  unfold State.endRun
  simp only [Channel.runEvent_eq_stopRecord, State.afterRunEnd, State.post, State.setChan, State.setLink, Link.release, State.setMover, State.setLinks, State.setEvents]
  split <;> simp_all

/-- A close, of a link no channel holds and of one that a channel holds (R67). -/
theorem State.closeLink_of_unbound (s : State) (i : LinkIndex) (r : StopReason) (h : (s.link i).holder = none) :
    s.closeLink i r = s.afterClose i := by
  simp [State.closeLink, h, State.afterClose, State.returnPages, State.setLink, Link.closed, State.setLinks, State.setFreePages]

theorem State.closeLink_of_bound (s : State) (i : LinkIndex) (r : StopReason) (c : Chan) (h : (s.link i).holder = some c) :
    s.closeLink i r = (s.afterClose i).stopChannel c r := by
  simp [State.closeLink, h, State.afterClose, State.returnPages, State.setLink, Link.closed, State.setLinks, State.setFreePages]

/-- What an outside stop can do (R166). -/
theorem State.stopChannel_cases (s : State) (c : Chan) (r : StopReason) :
    ((s.chan c).running = false ∧ s.stopChannel c r = s) ∨
      ((s.chan c).running = true ∧ s.moving c = true ∧
        s.stopChannel c r = s.setChan c { s.chan c with stopPending := some ((s.chan c).stopPending.getD r) }) ∨
      ((s.chan c).running = true ∧ s.moving c = false ∧ s.stopChannel c r = s.afterRunEnd c r) := by
  unfold State.stopChannel
  cases hr : (s.chan c).running <;> cases hm : s.moving c <;> simp [State.endRun_eq_afterRunEnd, hr]

end Sys2Proof.Machine
end

