-- ==== Sys2Proof/Laws/Signals.lean ====
section
/-! SUPPORT. What the part can show on CK, DT and STB, said once: the moments of a handshake, and the states in which each
line is released (R1, R4, R8). -/

namespace Sys2Proof.Machine

/-! ### Handshakes -/

/-- Within its 4 microseconds and its stretch, the first handshake is the one in hand (R4). -/
theorem handshakeAt_within (w : Nat) (ws : List Nat) (t : Nat) (h : t < 4 + w) : handshakeAt (w :: ws) t = (0, t) := by
  simp [handshakeAt, h]

/-- After them the ones that follow are (R4). -/
theorem handshakeAt_after (w : Nat) (ws : List Nat) (t : Nat) :
    handshakeAt (w :: ws) (4 + w + t) = ((handshakeAt ws t).1 + 1, (handshakeAt ws t).2) := by
  simp [handshakeAt, show ¬(4 + w + t < 4 + w) by omega]

/-- Unstretched handshakes take 4 microseconds each (R4). -/
theorem handshakeAt_unstretched (k u : Nat) (h : u < 4) : handshakeAt [] (4 * k + u) = (k, u) := by
  simp only [handshakeAt, Config.handshakeMicros, Prod.mk.injEq]
  omega

/-- The part makes handshakes only in Header and Sending (section 1.2). -/
theorem State.handshakes_none (s : State) (h : s.bus.activity ≠ .header ∧ s.bus.activity ≠ .sending) :
    s.handshakes = none := by
  simp [State.handshakes, h]

/-- The part is a Clocked sender only in Sending (R7). -/
theorem State.clockedFrame_none (s : State) (h : s.bus.activity ≠ .sending) : s.clockedFrame = none := by
  unfold State.clockedFrame
  split
  · contradiction
  · rfl

/-! ### Lines -/

/-- The part asserts CK only in Header and Sending: it is released in Free, Clearing, Turnaround, Receiving, Handback,
Cutting and Pulsing, at every moment (R1, R5, R13, R16, R17). -/
theorem State.ckLine_released (s : State) (m : WireMoment)
    (h : s.bus.activity ≠ .header ∧ s.bus.activity ≠ .sending) : s.ckLine m = false := by
  cases m <;> simp [State.ckLine, State.handshake, s.handshakes_none h]

/-- Whoever asserts CK holds the clock (section 1.2). -/
theorem State.holdsClock_of_ckLine (s : State) (m : WireMoment) (h : s.ckLine m = true) : s.holdsClock = true := by
  by_cases g : s.bus.activity ≠ .header ∧ s.bus.activity ≠ .sending
  · simp [s.ckLine_released m g] at h
  · simp only [State.holdsClock]
    cases k : s.bus.activity <;> simp_all

/-- The part drives STB only in Sending (R7). -/
theorem State.stbLine_released (s : State) (m : WireMoment) (h : s.bus.activity ≠ .sending) : s.stbLine m = none := by
  cases m <;> simp [State.stbLine, State.stbLevel, State.clockedBit, s.clockedFrame_none h]

/-- The part asserts DT only where it sends or answers a station's frame: it is released in Free, Clearing, Handback,
Cutting and Pulsing, at every moment (R1, R16, R17). -/
theorem State.dtLine_released (s : State) (m : WireMoment)
    (h : s.bus.activity ∉ [.header, .sending, .turnaround, .receiving]) : s.dtLine m = false := by
  simp only [List.mem_cons, List.not_mem_nil, or_false, not_or] at h
  cases m <;> simp [State.dtLine, State.clockedDt, State.clockedBit, State.handshake, s.clockedFrame_none h.2.1,
    s.handshakes_none ⟨h.1, h.2.1⟩, h]

/-- In Turnaround and Receiving the part asserts DT for one acknowledge clock of a frame's slot: the first for good parity
and the second for bad (R11). -/
theorem State.dtLine_answering (s : State) (b : BitVec 10) (second : Bool)
    (h : s.bus.activity = .turnaround ∨ s.bus.activity = .receiving) :
    s.dtLine (.answering b second) = (second != goodParity b) := by
  obtain h | h := h <;> cases second <;> cases g : goodParity b <;> simp [State.dtLine, givenSlot, h, g]

/-- Bit `k` of a header frame is on DT for the whole of its handshake (R4, R13). -/
theorem State.dtLine_headerBit (s : State) (stretches : List Nat) (t k u : Nat) (h : s.bus.activity = .header)
    (slot : s.bus.timer.map (·.slot) = some false) (at_t : handshakeAt stretches t = (k, u)) (hk : k < 10) :
    s.dtLine (.sending stretches t) = s.bus.frame.bits.getLsbD k := by
  have c : s.clockedFrame = none := s.clockedFrame_none (by simp [h])
  simp [State.dtLine, State.clockedDt, State.clockedBit, State.handshake, State.handshakes, c, h, slot, at_t, hk,
    show k < 12 by omega]

end Sys2Proof.Machine
end

