-- ==== Sys2Proof/Tests/Slice0.lean ====
section
/-! SUPPORT. Small tests: ill-formed commands refused, one step each of the spec's worked examples, and for each statement
with hypotheses a witness that meets them. -/

namespace Sys2Proof.Tests

open Sys2Proof Sys2Proof.Machine

/-! ### States the tests start from -/

/-- A ring byte with no mark, and one with a mark. -/
def plain (n : Nat) : Cell := { byte := BitVec.ofNat 8 n, marked := false }
def last (n : Nat) : Cell := { byte := BitVec.ofNat 8 n, marked := true }

/-- A link of one page to channel 2 of station 2. -/
def linkOf (q : LinkState) (d : Dir) (ring : List Cell) : Link :=
  { Link.reset with state := q, station := 2, channel := 2, dir := d, pages := [0], ring := ring }

/-- The machine after reset, with link 0 replaced. -/
def withLink (l : Link) (s : State) : State :=
  (s.setLink 0 l).setFreePages (if l.pages = [0] then allPages.tail else allPages)

/-- The machine after reset with a job of tag 0A hex, limit 5, on link 0 and station 2. -/
def jobOf (k : JobKind) : Job :=
  { kind := k, tag := 10, link := 0, station := 2, channel := 2, dir := .output, pages := 1, limit := 5 }

def queued (k : JobKind) : State := State.reset.setJobs [jobOf k]

/-- That job Active, with the sequencer in the given state. -/
def busy (k : JobKind) (q : SeqState) (s : State) : State :=
  (((s.setJobs [jobOf k]).setActive (some JobContext.fresh)).setSeq { s.seq with state := q }).reserve .job

/-- An exchange of station 2 in progress. -/
def inExchange (e : Exchange) (a : Activity) (t : WireTimer) (s : State) : State :=
  (s.setExchange (some e)).setBus { s.bus with activity := a, timer := some (s.settings.wait t) }

/-- An answer that accepts, of a Clocked-capable station that asks for nothing. -/
def accept : Answer := { code := 0, capability := true, ask := false }

def exchangeOf (k : ExchangeKind) (p : Phase) : Exchange :=
  { Exchange.fresh k 2 2 .output false 3 with phase := p, answer := some accept, pace := some .basic }

def clockedExchange (k : ExchangeKind) (p : Phase) : Exchange :=
  { Exchange.fresh k 2 2 .output true 3 with phase := p, answer := some accept, pace := some (.clocked 1) }

/-- A scan on its first visit, to station 2. -/
def scanning (s : State) : State :=
  ((s.setSeq { s.seq with state := .scanning }).setAttention
    { s.attention with scan := some { visited := [2], visits := 1, current := some 2, claim := some (2, 0x81) } }).reserve
    .scan

/-- INDEX selects a register. -/
def select (n : Nat) (s : State) : State := s.setWindow { s.window with index := BitVec.ofNat 6 n }

/-- Channel A Running on link 0. -/
def moverOn (d : Dir) (count : Word16) (s : State) : State :=
  (s.setChan .a { s.chan .a with running := true, dir := d, count := count }).reserve (.channel .a)

/-- Channel A has the byte move in progress. -/
def moving (c : Option Cell) (s : State) : State := s.setMover { s.mover with move := some { chan := .a, popped := c } }

def full (n : Nat) (s : State) : State :=
  s.setEvents { s.events with
    held := List.replicate n
      { kind := .unclaimed, source := 0, result := .code .done, count := 0, detail := 0, flags := 0 } }

/-- What a command answers, as a state. -/
def after (c : Instr) (s : State) : State :=
  match exec c s with
  | .next t => t
  | _ => s

/-! ### Well-formedness (R175) -/

theorem test_command_codes_are_not_unknown :
    (Instr.unknownCommand 0x01).wellFormed = false ∧ (Instr.unknownCommand 0x0B).wellFormed = false ∧
      (Instr.unknownCommand 0x1F).wellFormed = false := by decide
theorem test_other_bytes_are_unknown :
    (Instr.unknownCommand 0x00).wellFormed = true ∧ (Instr.unknownCommand 0x0C).wellFormed = true ∧
      (Instr.unknownCommand 0xFF).wellFormed = true := by decide
/-- No row of the table gives bits (98_reader.md). -/
theorem test_no_word_spells_a_command : decodeTableWord 8 1 = none := by decide

/-! ### One step, with results from the spec -/

/-- Section 11.1: after reset STATUS reads 08 hex, and 48 hex with ASK asserted. -/
theorem test_status_after_reset : (after .statusRead State.reset).pins.readData = 0x08 := by decide
theorem test_status_with_ask :
    (after .statusRead (State.reset.setPins { Pins.reset with askLine := true })).pins.readData = 0x48 := by decide
/-- R170: the two high bits are disregarded. -/
theorem test_index_write : (after (.indexWrite 0xE5) State.reset).window.index = 0x25 := by decide
/-- R176: codes; R175: 00 hex is no command. -/
theorem test_unknown_command : (after (.unknownCommand 0) State.reset).readReg .refuse = 17 := by decide
/-- R85: a kind of 0 is BAD-JOB, code 1. -/
theorem test_post_bad_job : (after .post State.reset).readReg .refuse = 1 := by decide
/-- R136: EVENTS-EMPTY. -/
theorem test_pop_empty : (after .pop State.reset).window.refuse = some .eventsEmpty := by decide
/-- R111: NOTHING-TO-ABORT in Idle. -/
theorem test_abort_idle : (after .abort State.reset).window.refuse = some .nothingToAbort := by decide
/-- R12, R18, R172: 0 is stored as 1 in a timer. -/
theorem test_timer_zero : (after (.registerWrite 0) (select 2 State.reset)).settings.tAnswer = 1 := by decide
/-- R56, R173: 0D hex is the last station. -/
theorem test_s_sel_last : (after (.sSelWrite 13) (select 32 State.reset)).window.sSel = 13 := by decide
theorem test_s_sel_bad : (after (.sSelWrite 14) (select 32 State.reset)).window.refuse = some .badValue := by decide
/-- R144: a P-LINK write clears LAST. -/
theorem test_p_link : (after (.pLinkWrite 11) (select 46
    (State.reset.setPort { Port.reset with last := true }))).port.last = false := by decide
/-- R156: CHANNEL-RUNNING comes before BAD-VALUE. -/
theorem test_ma_link_running :
    (after (.maLinkWrite 12) (select 48 (moverOn .input 1 State.reset))).window.refuse = some .channelRunning := by decide
/-- R83: the low byte read holds the high byte. -/
theorem test_l_total_hold :
    (after .lTotalLRead (select 43 (withLink { linkOf .opened .output [] with total := 0x1234 } State.reset))).window.totalHold
      = 0x12 := by decide
theorem test_ma_addr_hold :
    ((after .maAddrLRead (select 49 (State.reset.setChan .a { Channel.reset with addr := 0xABCD }))).chan .a).addrHold
      = 0xAB := by decide
/-- R148: a P-FLAGS read clears the sticky flags and keeps LAST. -/
theorem test_p_flags :
    (after .pFlagsRead (select 47 (State.reset.setPort
      { Port.reset with last := true, underrun := true, denied := true }))).port = { Port.reset with last := true } := by
  decide
/-- R145: the oldest byte is delivered, with its mark in LAST. -/
theorem test_port_read :
    let t := after .portRead (withLink (linkOf .lost .input [last 7, plain 8]) State.reset)
    t.pins.readData = 7 ∧ t.port.last = true ∧ (t.link 0).ring = [plain 8] := by decide
/-- R147: an IN link denies a write. -/
theorem test_port_write_denied :
    (after (.portWrite 1) (withLink (linkOf .opened .input []) State.reset)).port.denied = true := by decide
/-- R149: a byte marked already. -/
theorem test_port_mark_twice :
    (after .portMark (withLink (linkOf .opened .output [last 7]) State.reset)).window.refuse = some .nothingToMark := by
  decide
/-- R150: up to and including the first mark. -/
theorem test_port_skip :
    ((after .portSkip (withLink (linkOf .opened .input [plain 1, last 2, plain 3, last 4]) State.reset)).link 0).ring
      = [plain 3, last 4] := by decide
/-- R157: a count of 0. -/
theorem test_mover_start_zero : (after (.moverStart .b) State.reset).window.refuse = some .zeroCount := by decide
/-- R166: CHANNEL-IDLE. -/
theorem test_mover_stop_idle : (after (.moverStop .a) State.reset).window.refuse = some .channelIdle := by decide
/-- R160: the address wraps at FFFF hex; R165: COUNT at count 0, a MOVER-DONE event. -/
theorem test_in_move_completes :
    let s := moving (some (plain 9)) (moverOn .input 1 (withLink { linkOf .opened .input [] with holder := some .a }
      State.reset))
    let t := after (.byteMoveCompletion 0) (s.setChan .a { s.chan .a with addr := 0xFFFF })
    t.pins.hostWrite = some { addr := 0xFFFF, data := 9 } ∧ (t.chan .a).addr = 0 ∧
      t.events.held.map (·.kind.byte) = [0xC1] := by decide
/-- R161: A is served first after reset. -/
theorem test_grant :
    ((after .bgntGiven (moverOn .output 2 (withLink { linkOf .opened .output [] with holder := some .a }
      State.reset))).mover.move.map (·.chan)) = some .a := by decide
theorem test_withdrawal : (after .bgntWithdrawn (State.reset.setPins { Pins.reset with bgnt := true })).pins.bgnt = false := by
  decide
/-- R119: the latch is taken at once by an Idle arbiter, and the first visit is of station 0 (R124). -/
theorem test_ask_starts_scan :
    let t := after .askLineAsserted State.reset
    t.seq.state = .scanning ∧ t.exchange.map (·.station) = some 0 := by decide
theorem test_ask_released_clears_mask :
    (after .askLineReleased (State.reset.setAttention { Attention.reset with mask := true })).attention.mask = false := by
  decide
/-- Section 2.10: header frame 1 of a STATUS to station 2 is 52 hex. -/
theorem test_first_header_frame :
    (after .linesReleased (inExchange (exchangeOf .status .header) .clearing .turn State.reset)).bus.frame
      = { data := 0x52, mark := false } := by decide
/-- R177: the third header frame carries the length and the mark. -/
theorem test_third_header_frame :
    let s := inExchange (exchangeOf .put .header) .header .frame State.reset
    (after .ackRead (s.setBus { s.bus with headerIndex := 1 })).bus.frame = { data := 3, mark := true } := by decide
/-- R12, R10: with the frame limit of 2 at reset, the third NAK is FRAME-ERROR. -/
theorem test_third_nak :
    let s := inExchange (exchangeOf .status .header) .header .frame State.reset
    (after .nakRead (s.setBus { s.bus with nakCount := 1 })).bus.activity = .header ∧
      (after .nakRead (s.setBus { s.bus with nakCount := 2 })).bus.activity = .cutting := by decide
/-- R6, R7: at the reset rate a bit lasts 8 microseconds, low and then high, and STB is released after ten; R9: in a slot. -/
theorem test_stb :
    let s := inExchange (clockedExchange .put .outbound) .sending .frame State.reset
    s.stbLevel 0 = some false ∧ s.stbLevel 4 = some true ∧ s.stbLevel 79 = some true ∧ s.stbLevel 80 = none ∧
      (after .noPattern s).stbLevel 0 = none ∧
      (inExchange (exchangeOf .put .outbound) .sending .frame State.reset).stbLevel 0 = none := by decide
/-- R4, R8, R13: CK is asserted from 1 to 3 microseconds of a bit and later by a stretch, DT holds the bit, and in the slot
DT is released while CK makes two clocks and no third. The frame is 52 hex, so bits 0 to 2 are 0, 1, 0. -/
theorem test_ck_dt_of_basic_frame :
    let s := after .linesReleased (inExchange (exchangeOf .status .header) .clearing .turn State.reset)
    [0, 1, 2, 3].map (fun t => s.ckLine (.sending [] t)) = [false, true, true, false] ∧
      s.ckLine (.sending [5] 6) = false ∧ s.ckLine (.sending [5] 10) = true ∧
      [3, 4, 7, 8].map (fun t => s.dtLine (.sending [] t)) = [false, true, true, false] ∧
      s.ckLine (.sending [] 41) = true ∧ s.ckLine (.sending [] 45) = true ∧ s.ckLine (.sending [] 49) = false ∧
      s.dtLine (.sending [] 41) = false ∧ s.headerLeadMicros = some 8 := by decide
/-- R7, R8, R9: a Clocked frame leaves CK released for ten bit periods, and its slot is clocked on CK. -/
theorem test_ck_of_clocked_frame :
    let s := inExchange (clockedExchange .put .outbound) .sending .frame State.reset
    s.ckLine (.sending [] 2) = false ∧ s.ckLine (.sending [] 81) = true ∧ s.ckLine (.sending [] 89) = false ∧
      (after .noPattern s).ckLine (.sending [] 1) = true := by decide
/-- R11, R16: the answer to a station's frame of good parity is driven then released; a CUT releases CK and DT. -/
theorem test_dt_of_answer :
    let s := inExchange (exchangeOf .status .answer) .turnaround .answer State.reset
    s.dtLine (.answering 0x200 false) = true ∧ s.dtLine (.answering 0x200 true) = false ∧
      s.dtLine (.answering 0x201 false) = false ∧ s.dtLine (.answering 0x201 true) = true ∧
      (s.setBus s.bus.startCut).dtLine (.answering 0x200 false) = false := by decide
/-- R18: a T-FRAME write in a frame reaches its later runs, and not the slot that runs. -/
theorem test_frame_timer_write :
    let s := select 3 (inExchange (exchangeOf .put .outbound) .sending .frame State.reset)
    (after (.registerWrite 9) s).bus.timer.map (·.micros) = some [256, 288] ∧
      (after (.registerWrite 9) (after .noPattern s)).bus.timer.map (·.micros) = some [256] := by decide
/-- R45, R178: ACCEPT with capability and ask. -/
theorem test_answer_report :
    let t := after (.answerReceived 0x18 false)
      (busy .status .running (inExchange (Exchange.fresh .status 2 0 .output false 0) .turnaround .answer State.reset))
    (t.station 2).presence = .present ∧ (t.station 2).capability = .clockedCapable ∧ (t.station 2).askPending = true ∧
      t.bus.activity = .receiving := by decide
/-- R46. -/
theorem test_answer_timeout :
    let t := after .answerTimeout
      (busy .status .running (inExchange (Exchange.fresh .status 2 0 .output false 0) .turnaround .answer State.reset))
    (t.station 2).presence = .absent ∧ t.events.held.map (·.result.byte) = [2] := by decide
/-- R47. -/
theorem test_status_frame :
    ((after (.frameReceived 0x81 false) (busy .status .running
      (inExchange (exchangeOf .status .inbound) .receiving .frame State.reset))).station 2).lastStatus = some 0x81 := by
  decide
/-- R36: the first test frame of a PROBE is 5A hex, with the mark clear. -/
theorem test_first_test_frame :
    let e : Exchange := { exchangeOf .probe .handback with length := 2 }
    (after .handback (busy .probe .running (inExchange e .handback .turn State.reset))).bus.frame
      = { data := 0x5A, mark := false } := by decide
/-- R105: a mark ends the TAKE DONE with MSG-END; an EMPTY answer ends it DONE with the EMPTY flag. -/
theorem test_take_handbacks :
    let e : Exchange := { exchangeOf .take .handback with framesDone := 1, markReceived := true }
    let f : Exchange := { exchangeOf .take .handback with answer := some { accept with code := 2 } }
    (after .handback (busy .take .running (inExchange e .handback .turn State.reset))).events.held.map
        (fun v => (v.count, v.flags)) = [(1, 1)] ∧
      (after .handback (busy .take .running (inExchange f .handback .turn State.reset))).events.held.map
        (fun v => (v.count, v.flags)) = [(0, 2)] := by decide
/-- R128: the last visit, answered with no ask, ends the scan UNCLAIMED, and masks an asserted line. -/
theorem test_scan_ends_unclaimed :
    let s := scanning (inExchange (exchangeOf .status .handback) .handback .turn State.reset)
    let t := after .handback ((s.setAttention { s.attention with
      scan := some { visited := List.finRange 14, visits := 14, current := some 2, claim := none } }).setPins
        { Pins.reset with askLine := true })
    t.events.held.map (fun v => (v.kind.byte, v.count)) = [(0x82, 14)] ∧ t.attention.mask = true ∧
      t.seq.state = .idle := by decide
/-- R67, R166: an ABORT of a SHUT in Holding closes its link and stops the channel bound to it, or leaves it the stop pending
LINK while its move is in progress. -/
theorem test_close_stops_channel :
    let l : Link := { linkOf .shutting .input [plain 1] with holder := some .a }
    let s := busy .shut .holding (moverOn .input 2 (withLink l State.reset))
    ((after .abort s).chan .a).running = false ∧ ((after .abort s).link 0).state = .closed ∧
      ((after .abort (moving none s)).chan .a).stopPending = some .link := ⟨rfl, rfl, rfl⟩
/-- R17, R110: the pulse ends the BUSRESET job DONE. -/
theorem test_pulse_completion :
    let s := busy .busReset .resetting State.reset
    (after .pulseCompletion (s.setBus { s.bus with activity := .pulsing })).events.held.map (·.kind.byte) = [0x48] := by
  decide
/-- R162: a grant that comes back during a move begins no second one. -/
theorem test_grant_during_move :
    (after .bgntGiven (moving (some (plain 1)) (moverOn .input 2 (withLink
      { linkOf .opened .input [plain 2] with holder := some .a } State.reset)))).mover.move
      = some { chan := .a, popped := some (plain 1) } := by decide
/-- R175: SOFT-RESET keeps INDEX and REFUSE, and clears CMDERR. -/
theorem test_soft_reset_window :
    (after .softReset (State.reset.setWindow { Window.reset with index := 7, cmdErr := true, refuse := some .badJob })).window
      = { Window.reset with index := 7, refuse := some .badJob } := by decide
/-- R19: pin reset from a busy state. -/
theorem test_pin_reset :
    (after .pinReset (busy .put .running (inExchange (exchangeOf .put .header) .header .frame State.reset))).bus.activity
      = .free := by decide

/-! ### Witnesses: states and operands that meet the hypotheses of each statement, clause by clause

Every statement whose only hypothesis is `s.windowShut = false` has the state after reset as its witness. -/

theorem test_witness_windowOpen : State.reset.windowShut = false := by decide

theorem test_witness_StepRunsFrontCommand : State.reset.pending = [] := by decide

theorem test_witness_WindowShutTakesNoAccess :
    let s := moving (some (plain 1)) (State.reset.setPins { Pins.reset with bgnt := true })
    windowAccess .softReset = true ∧ windowAccess .dataRead = true ∧ s.pins.bgnt = true ∧ s.mover.move.isSome = true := by
  decide

/-- CFG at index 0; the configuration registers at 1 and 8, the first and the last; staging at 10 and 17. -/
theorem test_witness_writes :
    (select 0 State.reset).window.index = 0 ∧ (select 1 State.reset).window.index = 1 ∧
      (select 8 State.reset).window.index = 8 ∧ (select 8 State.reset).windowShut = false ∧
      10 ≤ (select 10 State.reset).window.index.toNat ∧ (select 17 State.reset).window.index.toNat ≤ 17 := by decide

/-- A T-FRAME write that the frame timer armed for a frame can take, one it holds already, and one in a slot. -/
theorem test_witness_writes_in_a_frame :
    let s := inExchange (exchangeOf .put .outbound) .sending .frame State.reset
    let w := s.settings.wait .frame
    s.bus.timer = some w ∧ w.timer = .frame ∧ w.slot = false ∧ (9 : Byte) ∉ w.units :: w.later ∧
      (8 : Byte) ∈ w.units :: w.later ∧ ({ w with slot := true } : Wait).slot = true := by decide

/-- Channel B's registers stand at indices 56 to 61. -/
theorem test_witness_CheckedWrites :
    (select 32 State.reset).window.index = 32 ∧ (select 36 State.reset).window.index = 36 ∧
      (select 46 State.reset).window.index = 46 ∧ (select 48 State.reset).window.index.toNat = 48 + 8 * chanCode .a ∧
      (select 56 State.reset).window.index.toNat = 48 + 8 * chanCode .b ∧
      49 + 8 * chanCode .b ≤ (select 57 State.reset).window.index.toNat ∧
      (select 61 State.reset).window.index.toNat ≤ 53 + 8 * chanCode .b := by decide

theorem test_witness_PlainAccessesStepIndex :
    (select 9 State.reset).window.index.toNat = 9 ∧ (select 63 State.reset).window.index.toNat = 63 ∧
      (select 39 State.reset).window.index.toNat ∉ [40, 43, 47, 49, 51, 57, 59] := by decide

theorem test_witness_HeadAndViewRegistersRead :
    18 ≤ (select 18 State.reset).window.index.toNat ∧ (select 25 State.reset).window.index.toNat ≤ 25 ∧
      (select 33 State.reset).window.index = 33 ∧ (select 45 State.reset).window.index = 45 := by decide

/-- The registers of the sequencer, the queue, the selections and the mover, and the first and last settings. -/
theorem test_witness_more_registers_read :
    (select 26 State.reset).window.index = 26 ∧ (select 27 State.reset).window.index = 27 ∧
      (select 28 State.reset).window.index = 28 ∧ (select 29 State.reset).window.index = 29 ∧
      (select 30 State.reset).window.index = 30 ∧ (select 32 State.reset).window.index = 32 ∧
      (select 36 State.reset).window.index = 36 ∧ (select 46 State.reset).window.index = 46 ∧
      (select 48 State.reset).window.index.toNat = 48 + 8 * chanCode .a ∧
      (select 61 State.reset).window.index.toNat = 53 + 8 * chanCode .b ∧
      (select 62 State.reset).window.index.toNat = 54 + 8 * chanCode .b ∧ (select 0 State.reset).window.index.toNat ≤ 8 ∧
      10 ≤ (select 17 State.reset).window.index.toNat ∧ (select 17 State.reset).window.index.toNat ≤ 17 := by decide

theorem test_witness_ReadsWithAnEffect :
    (select 40 State.reset).window.index = 40 ∧ (select 44 State.reset).window.index = 44 ∧
      (select 47 State.reset).window.index = 47 ∧ (select 49 State.reset).window.index.toNat = 49 + 8 * chanCode .a ∧
      (select 60 State.reset).window.index.toNat = 52 + 8 * chanCode .b := by decide

theorem test_witness_RefusedCommands :
    (Instr.unknownCommand 0x0C).wellFormed = true ∧ State.reset.windowShut = false ∧
      (State.reset.seq.state, Reason.nothingToAbort) ∈ [(SeqState.idle, Reason.nothingToAbort)] ∧
      ((scanning State.reset).seq.state = .scanning) ∧ (busy .busReset .resetting State.reset).seq.state = .resetting ∧
      (busy .put .cutting State.reset).seq.state = .cutting := by decide

/-! The buffer port: rights given on Open and on Lost links, denied to a held and to a Closed link, a ring empty, with bytes,
and full. -/

theorem test_witness_PortAccessResult :
    let i := linkOf .lost .input [last 7]
    let o := linkOf .opening .output []
    (i.dir = .input ∧ i.state ∈ [.opened, .shutting, .lost] ∧ i.holder = none ∧ i.ring = last 7 :: []) ∧
      i = (withLink i State.reset).link State.reset.port.link ∧
      (linkOf .opened .input []).ring = [] ∧
      ¬(Link.reset.dir = .input ∧ Link.reset.state ∈ [.opened, .shutting, .lost] ∧ Link.reset.holder = none) ∧
      (o.dir = .output ∧ o.state ∈ [.opening, .opened] ∧ o.holder = none ∧ o.ring.length < 256 * o.pages.length) ∧
      256 * ({ o with pages := [] } : Link).pages.length ≤ o.ring.length ∧
      ¬(i.dir = .output ∧ i.state ∈ [.opening, .opened] ∧ i.holder = none) := by decide

/-- The newest byte unmarked with 7 marks held and with 8; marked; and alone in flight. -/
theorem test_witness_PortMarkResult :
    let o := linkOf .opened .output (List.replicate 7 (last 1) ++ [plain 2])
    let p := linkOf .opened .output (List.replicate 8 (last 1) ++ [plain 2])
    (o.dir = .output ∧ o.state ∈ [.opening, .opened] ∧ o.holder = none) ∧ (plain 2).marked = false ∧
      (o.ring.filter (·.marked)).length < 8 ∧ 8 ≤ (p.ring.filter (·.marked)).length ∧
      (linkOf .opened .output []).ring = [] ∧ (linkOf .opened .output [last 1]).ring = [] ++ [last 1] ∧
      ({ linkOf .opened .output [plain 1] with inFlight := true } : Link).inFlight = true ∧
      ¬((linkOf .shutting .output []).state ∈ [LinkState.opening, .opened]) := by decide

theorem test_witness_PortSkipResult :
    let l := linkOf .shutting .input [plain 1, last 2, plain 3]
    (l.dir = .input ∧ l.state ∈ [.opened, .shutting, .lost] ∧ l.holder = none) ∧
      l.ring = [plain 1] ++ last 2 :: [plain 3] ∧ (∀ x ∈ [plain 1], x.marked = false) ∧ (last 2).marked = true ∧
      (∀ x ∈ (linkOf .opened .input []).ring, x.marked = false) ∧
      ¬(({ l with holder := some Chan.a } : Link).holder = none) := by decide

/-! The job queue and the arbiter. -/

/-- A staged TAKE of limit 1, a staged kind of 9, and queues of 7 and of 8 jobs. -/
theorem test_witness_PostResult :
    let g := { Settings.reset with jKind := 4, jLimitL := 1 }
    g.postedJob.isSome = true ∧ ({ g with jKind := 9 } : Settings).postedJob = none ∧
      ({ g with jLimitL := 0 } : Settings).postedJob = none ∧
      (List.replicate 7 (jobOf .status)).length < 8 ∧ 8 ≤ (List.replicate 8 (jobOf .status)).length := by decide

theorem test_witness_PopAndPurgeResult :
    State.reset.events.held = [] ∧ (full 1 State.reset).events.held ≠ [] ∧ State.reset.QueueLaw ∧
      (State.reset.setJobs (List.replicate 8 (jobOf .put))).QueueLaw ∧
      ((full 1 State.reset).setSettings { Settings.reset with intAsk := true }).intLine = true ∧
      (full 1 State.reset).intLine = false ∧
      ((State.reset.setEvents { EventQueue.reset with qroom := true }).setSettings
        { Settings.reset with intQroom := true }).intLine = true := by decide

theorem test_witness_AbortCutsTheExchange :
    let s := busy .put .running (inExchange (exchangeOf .put .outbound) .sending .frame State.reset)
    s.windowShut = false ∧ s.seq.state = .running ∧ s.exchange = some (exchangeOf .put .outbound) ∧
      s.jobs = [jobOf .put] ∧ s.active = some JobContext.fresh ∧ s.bus.activity ≠ .pulsing := by decide

theorem test_witness_AbortOutsideAnExchange :
    let s := busy .take .holding State.reset
    let t := busy .put .running State.reset
    let u := busy .openLink .holding (withLink (linkOf .opening .output []) State.reset)
    let v := busy .shut .holding (withLink (linkOf .shutting .output [plain 1]) State.reset)
    s.windowShut = false ∧ s.seq.state = .holding ∧ s.jobs = [jobOf .take] ∧ s.active = some JobContext.fresh ∧
      s.jobs.length ≤ 8 ∧ (t.seq.state = .running ∧ t.exchange = none) ∧
      (busy .status .holding State.reset).jobs = [jobOf .status] ∧
      (u.jobs = [jobOf .openLink] ∧ (u.link (jobOf .openLink).linkIndex).holder = none) ∧
      (JobContext.fresh.probe = .none ∧ (busy .probe .holding State.reset).jobs = [jobOf .probe] ∧
        (busy .census .running State.reset).jobs = [jobOf .census] ∧ (busy .census .running State.reset).exchange = none) ∧
      (v.jobs = [jobOf .shut] ∧ (v.link (jobOf .shut).linkIndex).holder = none) := by decide

/-- A SHUT in Holding whose Shutting link a channel holds, with and without its move in progress; the same for an OPEN. -/
theorem test_witness_AbortStopsBoundChannel :
    let l : Link := { linkOf .shutting .input [plain 1] with holder := some .a }
    let o : Link := { linkOf .opening .output [] with holder := some .a }
    let s := busy .shut .holding (moverOn .input 2 (withLink l State.reset))
    let t := busy .openLink .holding (moverOn .output 2 (withLink o State.reset))
    (s.windowShut = false ∧ s.seq.state = .holding ∧ s.jobs = [jobOf .shut] ∧ s.active = some JobContext.fresh ∧
        (s.link (jobOf .shut).linkIndex).holder = some .a ∧ (s.chan .a).running = true ∧ s.moving .a = false ∧
        (moving none s).moving .a = true ∧ (moving none s).windowShut = false) ∧
      (t.jobs = [jobOf .openLink] ∧ (t.link (jobOf .openLink).linkIndex).holder = some .a ∧
        (t.chan .a).running = true) := by decide

theorem test_witness_ArbiterStartsNothing :
    (busy .put .running State.reset).seq.state ≠ .idle ∧
      (State.reset.seq.state = .idle ∧ State.reset.jobs = [] ∧ State.reset.attention.latch = false) ∧
      (queued .put).jobs ≠ [] ∧ 16 ≤ (full 16 (queued .put)).events.held.length ∧
      16 ≤ (moverOn .input 1 (full 15 (queued .put))).events.held.length +
        (moverOn .input 1 (full 15 (queued .put))).events.reserved.length := by decide

/-- The latch set; in the second state every station is Absent. -/
theorem test_witness_ArbiterStartsScan :
    let s := State.reset.setAttention { Attention.reset with latch := true, rotation := 13 }
    let t := s.setStations (Vector.replicate 14 { Station.reset with presence := .absent })
    (s.seq.state = .idle ∧ s.bus.activity = .free ∧ s.attention.latch = true ∧ s.settings.scan = true ∧
        s.attention.mask = false ∧ (s.seq.jobTurn = false ∨ s.jobs = []) ∧
        (full 15 s).events.held.length + (full 15 s).events.reserved.length < 16 ∧ s.chooseVisit [] = some 13) ∧
      (t.jobs = [] ∧ Holder.scan ∉ t.events.reserved ∧
        ∀ i : StationIndex, (t.station i).askPending = false ∧ (t.station i).presence = .absent) := by decide

/-- Every station Absent, the latch set, and a job queued. -/
theorem test_witness_ScanWithoutCandidateThenJob :
    let s := ((queued .put).setAttention { Attention.reset with latch := true }).setStations
      (Vector.replicate 14 { Station.reset with presence := .absent })
    s.seq.state = .idle ∧ s.jobs ≠ [] ∧ s.seq.jobTurn = false ∧ s.attention.latch = true ∧ s.settings.scan = true ∧
      s.attention.mask = false ∧ s.events.held.length + s.events.reserved.length < 16 ∧
      Holder.scan ∉ s.events.reserved ∧
      ∀ i : StationIndex, (s.station i).askPending = false ∧ (s.station i).presence = .absent := by decide

theorem test_witness_ArbiterStartsJob :
    let t := queued .openLink
    ((queued .status).JobMayStart (jobOf .status) ∧ (queued .probe).JobMayStart (jobOf .probe) ∧
        (queued .census).JobMayStart (jobOf .census) ∧ (queued .busReset).JobMayStart (jobOf .busReset) ∧
        (queued .probe).bus.activity = .free) ∧
      (t.seq.state = .idle ∧ t.attention.latch = false ∧ t.events.held.length + t.events.reserved.length < 16 ∧
        t.jobs = [jobOf .openLink] ∧ (t.link (jobOf .openLink).linkIndex).state = .closed ∧
        (jobOf .openLink).pages.toNat ≤ (t.setFreePages [15]).freePages.length ∧
        ∀ i : LinkIndex, i ≠ (jobOf .openLink).linkIndex → (t.link i).state = .closed ∨
          ¬((t.link i).station = (jobOf .openLink).stationIndex ∧ (t.link i).channel = (jobOf .openLink).channel ∧
            (t.link i).dir = (jobOf .openLink).dir)) := by decide

/-- A PUT of two bytes of a Clocked-capable station, and a TAKE of its limit with room for one mark. -/
theorem test_witness_ArbiterStartsDataJob :
    let s := (withLink (linkOf .opened .output [plain 1, plain 2]) (queued .put)).setStation 2
      { Station.reset with capability := .clockedCapable }
    let t := withLink (linkOf .opened .input (List.replicate 7 (last 1))) (queued .take)
    s.JobMayStart (jobOf .put) ∧ s.NextExchange (jobOf .put) JobContext.fresh (Exchange.fresh .put 2 2 .output true 2) ∧
      t.JobMayStart (jobOf .take) ∧
      t.NextExchange (jobOf .take) JobContext.fresh (Exchange.fresh .take 2 2 .input false 5) := by decide

/-- A SHUT of an Open link that no channel holds, that a channel holds, and that a channel holds with a move in progress. -/
theorem test_witness_ArbiterStartsShut :
    let s := withLink (linkOf .opened .output [plain 1]) (queued .shut)
    let t := moverOn .output 2 (withLink { linkOf .opened .output [] with holder := some .a } (queued .shut))
    (s.JobMayStart (jobOf .shut) ∧ s.bus.activity = .free ∧ (s.link (jobOf .shut).linkIndex).state = .opened ∧
        (s.link (jobOf .shut).linkIndex).holder = none) ∧
      (t.JobMayStart (jobOf .shut) ∧ (t.link (jobOf .shut).linkIndex).state = .opened ∧
        (t.link (jobOf .shut).linkIndex).holder = some .a ∧ (t.chan .a).running = true ∧ t.moving .a = false ∧
        (moving none t).moving .a = true) := by decide

/-- The link in use; another link on the endpoint; every page lent to links of other endpoints. -/
theorem test_witness_JobEndsAtItsStart :
    let s := withLink (linkOf .opened .output []) (queued .openLink)
    let t := (queued .openLink).setLink 1 (linkOf .lost .output [])
    let o : Link := { linkOf .opened .output [] with channel := 0, pages := [0, 1, 2, 3, 4, 5, 6, 7] }
    let p : Link := { linkOf .opened .output [] with channel := 1, pages := [8, 9, 10, 11, 12, 13, 14, 15] }
    let u := (((queued .openLink).setLink 1 o).setLink 2 p).setFreePages []
    (s.JobMayStart (jobOf .openLink) ∧ s.exchange = none ∧ s.active = none ∧ Holder.job ∉ s.events.reserved ∧
        (s.link (jobOf .openLink).linkIndex).state ≠ .closed) ∧
      (t.JobMayStart (jobOf .openLink) ∧ (t.link (jobOf .openLink).linkIndex).state = .closed ∧
        (1 : LinkIndex) ≠ (jobOf .openLink).linkIndex ∧ (t.link 1).state ≠ .closed ∧
        (t.link 1).station = (jobOf .openLink).stationIndex ∧ (t.link 1).channel = (jobOf .openLink).channel ∧
        (t.link 1).dir = (jobOf .openLink).dir) ∧
      (u.JobMayStart (jobOf .openLink) ∧ (u.link (jobOf .openLink).linkIndex).state = .closed ∧
        (∀ i : LinkIndex, i ≠ (jobOf .openLink).linkIndex → (u.link i).state = .closed ∨
          ¬((u.link i).station = (jobOf .openLink).stationIndex ∧ (u.link i).channel = (jobOf .openLink).channel ∧
            (u.link i).dir = (jobOf .openLink).dir)) ∧
        u.freePages.length < (jobOf .openLink).pages.toNat) := by decide

/-- The links on which the claim of a PUT or a TAKE fails. -/
theorem test_witness_failing_claims :
    (linkOf .lost .output []).ClaimFails .put .linkLost ∧ Link.reset.ClaimFails .take .linkState ∧
      (linkOf .opened .input []).ClaimFails .put .wrongWay ∧ (linkOf .opened .output []).ClaimFails .take .wrongWay :=
  ⟨by decide, by decide, by decide, by decide⟩

theorem test_witness_full_claims :
    (linkOf .opened .input (List.replicate 8 (last 1))).ClaimFails .take .marksFull ∧
      ({ linkOf .opened .input [] with pages := [] } : Link).ClaimFails .take .ringFull := by decide

/-- A PUT of an empty ring, a SHUT of a Closed link, and a SHUT of a Lost one. -/
theorem test_witness_OtherJobsEndAtTheirStart :
    (queued .put).JobMayStart (jobOf .put) ∧ (queued .take).JobMayStart (jobOf .take) ∧
      (queued .shut).JobMayStart (jobOf .shut) ∧ Holder.job ∉ (queued .shut).events.reserved ∧
      (linkOf .opened .output []).ring = [] ∧ Link.reset.state ∈ [LinkState.closed, .opening, .shutting] ∧
      (linkOf .lost .input [plain 1]).holder = none := by decide

/-- A SHUT of a Lost IN link that a Running channel drains. -/
theorem test_witness_LocalCloseStopsBoundChannel :
    let l : Link := { linkOf .lost .input [plain 1] with holder := some .a }
    let s := moverOn .input 2 (withLink l (queued .shut))
    s.JobMayStart (jobOf .shut) ∧ s.exchange = none ∧ s.active = none ∧ Holder.job ∉ s.events.reserved ∧
      (s.link (jobOf .shut).linkIndex).state = .lost ∧ (s.link (jobOf .shut).linkIndex).holder = some .a ∧
      (s.chan .a).running = true ∧ s.moving .a = false ∧ (moving none s).moving .a = true := by decide

theorem test_witness_DataJobsPresentTheirClaim :
    let l := linkOf .opened .output [plain 1]
    let s := busy .put .running (withLink l State.reset)
    s.seq.state = .running ∧ s.exchange = none ∧ s.bus.activity = .free ∧ s.jobs = [jobOf .put] ∧
      s.active = some JobContext.fresh ∧ l = s.link (jobOf .put).linkIndex ∧
      s.NextExchange (jobOf .put) JobContext.fresh (Exchange.fresh .put 2 2 .output false 1) ∧
      (busy .put .holding s).seq.state = .holding ∧ (linkOf .opened .output []).ring = [] := by decide

theorem test_witness_TakePresentsItsClaim :
    let m := linkOf .opened .input (List.replicate 7 (last 1))
    let s := busy .take .holding (withLink m State.reset)
    s.seq.state = .holding ∧ s.exchange = none ∧ s.bus.activity = .free ∧ s.jobs = [jobOf .take] ∧
      m = s.link (jobOf .take).linkIndex ∧
      s.NextExchange (jobOf .take) JobContext.fresh (Exchange.fresh .take 2 2 .input false 5) ∧
      (busy .take .running s).seq.state = .running := by decide

/-- A PROBE in Holding with CFG.CLOCKED clear and set, and an OPEN, a SHUT and a STATUS. -/
theorem test_witness_BusyDelayEndOfOtherJobs :
    let s := busy .probe .holding State.reset
    let t := busy .openLink .holding (withLink (linkOf .opening .output []) State.reset)
    (s.seq.state = .holding ∧ s.bus.activity = .free ∧ s.jobs = [jobOf .probe] ∧ s.active = some JobContext.fresh ∧
        (jobOf .probe).kind ∈ [.openLink, .shut, .status, .probe]) ∧
      s.NextExchange (jobOf .probe) JobContext.fresh (Exchange.fresh .probe 2 0 .output false 2) ∧
      t.NextExchange (jobOf .openLink) JobContext.fresh (Exchange.fresh .openChannel 2 2 .output false 0) := by decide

theorem test_witness_BusyDelayEndRepeats :
    (State.reset.setSettings { Settings.reset with clocked := false }).NextExchange (jobOf .probe) JobContext.fresh
        (Exchange.fresh .probe 2 0 .output false 0) ∧
      State.reset.NextExchange (jobOf .status) JobContext.fresh (Exchange.fresh .status 2 0 .output false 0) := by decide

/-! The attention unit. -/

theorem test_witness_VisitChoiceOrder :
    (State.reset.setStation 13 { Station.reset with askPending := true }).chooseVisit [] = some 13 ∧
      State.reset.chooseVisit [0] = some 1 ∧ State.reset.chooseVisit (List.finRange 14) = none := by decide

theorem test_witness_NextVisitBegins :
    let s := busy .census .running State.reset
    let t := scanning State.reset
    (s.seq.state = .running ∧ s.exchange = none ∧ s.bus.activity = .free ∧ s.jobs = [jobOf .census] ∧
        s.active = some JobContext.fresh) ∧
      (t.seq.state = .scanning ∧ t.exchange = none ∧ t.bus.activity = .free ∧ t.attention.scan.isSome = true ∧
        t.chooseVisit [2] = some 0) := by decide

/-- Visits 12 and 13 of a census: its handback with ACCEPT and with BUSY, its answer timeout, and its failure's CUT. -/
theorem test_witness_CensusVisitEnds :
    let e := exchangeOf .status .handback
    let f : Exchange := { exchangeOf .status .cut with outcome := some .turnError }
    let s := busy .census .running (inExchange e .handback .turn State.reset)
    let t := busy .census .running (inExchange (Exchange.fresh .status 2 0 .output false 0) .turnaround .answer State.reset)
    let u := busy .census .running (inExchange f .cutting .turn State.reset)
    let v := busy .census .cutting (inExchange { f with outcome := some .cutByRequest } .cutting .turn State.reset)
    (s.exchange = some e ∧ e.kind = .status ∧ s.seq.state = .running ∧ s.bus.waiting = none ∧ s.jobs = [jobOf .census] ∧
        s.active = some JobContext.fresh ∧ e.framesDone = 0 ∧ e.markReceived = false ∧ e.testResult = none ∧
        s.bus.activity = .handback ∧ e.answer = some accept ∧ accept.code = 0 ∧ ({ accept with code := 1 } : Answer).code = 1) ∧
      (t.bus.activity = .turnaround ∧ t.bus.timing .answer = true) ∧
      (u.exchange = some f ∧ u.seq.state = .running ∧ u.bus.activity = .cutting ∧ f.outcome = some .turnError) ∧
      (v.seq.state = .cutting ∧ v.bus.activity = .cutting ∧ v.jobs = [jobOf .census]) ∧
      ({ JobContext.fresh with visit := 12 } : JobContext).visit ≠ 13 ∧
      ({ JobContext.fresh with visit := 13 } : JobContext).visit = 13 := by decide

theorem test_witness_AskLineAndRearm :
    State.reset.pins.askLine = false ∧ State.reset.attention.scan = none ∧
      (scanning State.reset).attention.scan.isSome = true ∧ (scanning State.reset).windowShut = false := by decide

theorem test_witness_ClaimingVisitEndsScan :
    let s := scanning (inExchange (exchangeOf .status .handback) .handback .turn State.reset)
    s.seq.state = .scanning ∧ s.bus.activity = .handback ∧ s.bus.waiting = none ∧
      s.exchange = some (exchangeOf .status .handback) ∧ (exchangeOf .status .handback).answer = some accept ∧
      accept.code = 0 ∧ s.attention.scan.bind (·.claim) = some (2, 0x81) := by decide

/-- A claim whose handback failed, at the CUT's completion. -/
theorem test_witness_ClaimWithTurnErrorEndsScan :
    let e : Exchange := { exchangeOf .status .cut with outcome := some .turnError }
    let s := scanning (inExchange e .cutting .turn State.reset)
    s.seq.state = .scanning ∧ s.bus.activity = .cutting ∧ s.bus.waiting = none ∧ s.exchange = some e ∧
      e.outcome = some .turnError ∧ s.attention.scan.bind (·.claim) = some (2, 0x81) := by decide

/-- Visits without a claim at a BUSY handback, an answer timeout and a failure's CUT: with stations left, and at the last. -/
theorem test_witness_UnclaimedVisitEnds :
    let x : Scan := { visited := [2], visits := 1, current := some 2, claim := none }
    let e : Exchange := { exchangeOf .status .handback with answer := some { accept with code := 1 } }
    let f : Exchange := { exchangeOf .status .cut with outcome := some .frameTimeout }
    let s := (scanning (inExchange e .handback .turn State.reset)).setAttention { Attention.reset with scan := some x }
    let t := scanning (inExchange (Exchange.fresh .status 2 0 .output false 0) .turnaround .answer State.reset)
    (s.seq.state = .scanning ∧ s.bus.waiting = none ∧ s.exchange = some e ∧ e.kind = .status ∧ s.attention.scan = some x ∧
        x.claim = none ∧ s.bus.activity = .handback ∧ e.answer = some { accept with code := 1 }) ∧
      (t.bus.activity = .turnaround ∧ t.bus.timing .answer = true) ∧
      (f.outcome = some .frameTimeout ∧ (inExchange f .cutting .turn State.reset).bus.activity = .cutting) ∧
      ((0 : StationIndex) ∉ x.visited ∧ (s.station 0).presence ≠ .absent) ∧
      ∀ i : StationIndex, i ∉ List.finRange 14 → (s.station i).askPending = false := by decide

/-! The mover: a state for each check of MOVER-START, and the two kinds of move. -/

theorem test_witness_MoverStartResult :
    let s := State.reset.setChan .a { Channel.reset with count := 1, mode := true }
    let o := linkOf .opening .output (List.replicate 7 (last 1))
    ((moverOn .input 1 State.reset).chan .a).running = true ∧ (State.reset.chan .a).count = 0 ∧
      ((s.chan .a).running = false ∧ (s.chan .a).count ≠ 0 ∧ (s.link 0).dir = .output ∧
        (s.link 0).state ∉ [.opening, .opened]) ∧
      ({ o with holder := some Chan.b } : Link).holder ≠ none ∧
      ((s.chan .a).mode = true ∧ 8 ≤ ((linkOf .opened .output (List.replicate 8 (last 1))).ring.filter (·.marked)).length) ∧
      16 ≤ (full 16 s).events.held.length + (full 16 s).events.reserved.length ∧
      (o = (withLink o s).link (s.chan .a).link ∧ o.dir = .output ∧ o.state ∈ [.opening, .opened] ∧ o.holder = none ∧
        (o.ring.filter (·.marked)).length < 8 ∧
        (full 15 s).events.held.length + (full 15 s).events.reserved.length < 16) := by decide

theorem test_witness_MoverStopResult :
    let s := moverOn .output 2 State.reset
    (State.reset.chan .a).running = false ∧ ((s.chan .a).running = true ∧ s.moving .a = false) ∧
      (((moving none s).chan .a).running = true ∧ (moving none s).moving .a = true) ∧ s.windowShut = false := by decide

theorem test_witness_GrantServesTheOtherChannel :
    let l : Link := { linkOf .opened .input [plain 1] with holder := some .a }
    let s := moverOn .input 1 (withLink l State.reset)
    let t := moverOn .output 1 (withLink { linkOf .opened .output [] with holder := some .a } State.reset)
    (State.reset.mover.move = none ∧ State.reset.hasWork .a = false ∧ State.reset.hasWork .b = false) ∧
      (s.mover.move = none ∧ s.hasWork .a = true ∧ s.hasWork .b = false ∧ s.mover.lastServed = Chan.other .a ∧
        (s.chan .a).dir = .input ∧ l = s.link (s.chan .a).link ∧ l.dir = .input ∧ l.state ∈ [.opened, .shutting, .lost] ∧
        l.holder = some .a ∧ l.ring = plain 1 :: []) ∧
      (t.hasWork .a = true ∧ (t.chan .a).dir = .output) := by decide

/-- A move still in progress after a withdrawal. -/
theorem test_witness_GrantDuringMove : (moving none State.reset).mover.move ≠ none := by decide

/-- BREQ: no work; work; a stop pending on the channel that has it; a move in progress. -/
theorem test_witness_BusRequestLine :
    let s := moverOn .input 1 (withLink { linkOf .opened .input [plain 1] with holder := some .a } State.reset)
    State.reset.breqLine = false ∧ s.breqLine = true ∧
      (s.setChan .a { s.chan .a with stopPending := some .command }).breqLine = false ∧
      (moving none State.reset).breqLine = true := by decide

theorem test_witness_ByteMoveCompletionResult :
    let l : Link := { linkOf .opened .output [] with holder := some .a }
    let s := moving (some (last 1)) (moverOn .input 2 State.reset)
    let t := moving none (moverOn .output 1 (withLink l State.reset))
    (s.mover.move = some { chan := .a, popped := some (last 1) } ∧ (s.chan .a).dir = .input ∧
        (s.chan .a).stopPending = none ∧ (s.chan .a).mode = false ∧ (s.chan .a).count ≠ 1 ∧ (last 1).marked = true) ∧
      (t.mover.move = some { chan := .a, popped := none } ∧ (t.chan .a).dir = .output ∧
        l = t.link (t.chan .a).link ∧ l.dir = .output ∧ l.state ∈ [.opening, .opened] ∧ l.holder = some .a ∧
        l.ring.length < 256 * l.pages.length ∧ (t.chan .a).count = 1 ∧ (t.chan .a).stopPending = none) ∧
      ¬(Link.reset.holder = some Chan.a) ∧
      (t.setChan .a { t.chan .a with stopPending := some .shut }).mover.a.stopPending = some .shut := by decide

/-! Exchanges. -/

theorem test_witness_HeaderFramesAndSlots :
    let s := inExchange (exchangeOf .put .header) .header .frame State.reset
    s.exchange = some (exchangeOf .put .header) ∧ s.bus.activity = .header ∧ s.bus.headerIndex = 0 ∧
      (s.setBus { s.bus with headerIndex := 2 }).bus.headerIndex = 2 ∧
      (inExchange (exchangeOf .put .header) .clearing .turn State.reset).bus.activity = .clearing ∧
      ({ s.bus with nakCount := 1 } : BusUnit).nakCount + 1 ≤ s.settings.frameLimit.toNat ∧
      (inExchange (exchangeOf .take .answer) .turnaround .answer State.reset).bus.activity ∈ [.turnaround, .receiving] := by
  decide

theorem test_witness_FailureStartsCut :
    let s := busy .put .running (inExchange (clockedExchange .put .outbound) .sending .frame State.reset)
    let t := busy .take .running (inExchange (clockedExchange .take .handback) .handback .turn State.reset)
    (s.exchange = some (clockedExchange .put .outbound) ∧ s.bus.activity ∈ [.header, .sending] ∧
        s.settings.frameLimit.toNat < ({ s.bus with nakCount := 2 } : BusUnit).nakCount + 1 ∧
        s.bus.timing .frame = true ∧ s.jobs = [jobOf .put] ∧ s.active = some JobContext.fresh) ∧
      (t.bus.activity = .handback ∧ (clockedExchange .take .handback).isClocked = true ∧ t.bus.timing .turn = true) ∧
      (inExchange (exchangeOf .take .inbound) .receiving .frame State.reset).bus.activity ∈ [.turnaround, .receiving] := by
  decide

/-- A TAKE by a timeout and by a NAK it gives past the limit, a PUT and a PROBE by a NAK read past it. -/
theorem test_witness_ClockedFailureDemotes :
    let s := busy .take .running (inExchange (clockedExchange .take .inbound) .receiving .frame State.reset)
    let t := busy .put .running (inExchange (clockedExchange .put .outbound) .sending .frame State.reset)
    s.exchange = some (clockedExchange .take .inbound) ∧ s.active = some JobContext.fresh ∧ s.bus.timing .frame = true ∧
      (clockedExchange .take .inbound).isClocked = true ∧ (s.station 2).demoted = false ∧ (s.station 2).streak = false ∧
      ((s.setStation 2 { Station.reset with streak := true }).station 2).streak = true ∧
      s.bus.activity ∈ [.turnaround, .receiving] ∧ t.bus.activity ∈ [.header, .sending] ∧
      t.settings.frameLimit.toNat < ({ t.bus with nakCount := 2 } : BusUnit).nakCount + 1 ∧
      (clockedExchange .probe .outbound).phase = .outbound := by decide

/-- Codes 0, 1, 2 of a TAKE, 3 and 4 of a PUT are valid; 2 of a PROBE or a PUT, 3 of a STATUS and 5 to 7 are not. -/
theorem test_witness_AnswerResult :
    let s := inExchange (Exchange.fresh .take 2 2 .input false 9) .turnaround .answer State.reset
    let t := busy .put .running (inExchange (Exchange.fresh .put 2 2 .output false 9) .turnaround .answer State.reset)
    s.exchange = some (Exchange.fresh .take 2 2 .input false 9) ∧ s.bus.activity = .turnaround ∧
      (0xE0 : Byte).toNat % 8 = 0 ∧ (0x02 : Byte).toNat % 8 = 2 ∧ (0x04 : Byte).toNat % 8 ∈ [3, 4] ∧
      5 ≤ (0x05 : Byte).toNat % 8 ∧ ExchangeKind.probe ≠ .take ∧ ExchangeKind.status ∈ [ExchangeKind.status, .probe] ∧
      (ExchangeKind.put ≠ .take ∧ t.jobs = [jobOf .put] ∧ t.active = some JobContext.fresh) := by decide

theorem test_witness_ReceivedFrameResult :
    let s := scanning (inExchange (exchangeOf .status .inbound) .receiving .frame State.reset)
    let l := linkOf .opened .input []
    let t := busy .take .running (inExchange (exchangeOf .take .inbound) .receiving .frame (withLink l State.reset))
    (s.exchange = some (exchangeOf .status .inbound) ∧ s.bus.activity = .receiving ∧ s.attention.scan.isSome = true ∧
        s.seq.state = .scanning ∧ (exchangeOf .status .inbound).answer = some accept) ∧
      (t.exchange = some (exchangeOf .take .inbound) ∧ t.jobs = [jobOf .take] ∧ t.active = some JobContext.fresh ∧
        l = t.link (jobOf .take).linkIndex ∧ (exchangeOf .take .inbound).framesDone + 1 ≠ 3 ∧
        ({ exchangeOf .take .inbound with framesDone := 2 } : Exchange).framesDone + 1 = 3) := by decide

/-- A status frame of a STATUS job and of a census visit, and the handback of a STATUS job. -/
theorem test_witness_StatusFrameOfJobs :
    let s := busy .status .running (inExchange (exchangeOf .status .inbound) .receiving .frame State.reset)
    let e : Exchange := { exchangeOf .status .handback with statusByte := some 0x81 }
    let t := busy .status .running (inExchange e .handback .turn State.reset)
    (s.exchange = some (exchangeOf .status .inbound) ∧ s.seq.state = .running ∧ s.bus.activity = .receiving ∧
        (busy .census .running s).seq.state = .running) ∧
      (t.bus.activity = .handback ∧ t.bus.waiting = none ∧ e.answer = some accept ∧ accept.code = 0 ∧
        t.jobs = [jobOf .status] ∧ t.active = some JobContext.fresh ∧ e.statusByte = some 0x81) := by decide

theorem test_witness_PutSendsBytesInOrder :
    let l := linkOf .opened .output [plain 1, last 2]
    let s := busy .put .running (inExchange (exchangeOf .put .handback) .handback .turn (withLink l State.reset))
    let t := busy .put .running (inExchange (exchangeOf .put .outbound) .sending .frame (withLink l State.reset))
    (s.exchange = some (exchangeOf .put .handback) ∧ s.bus.activity = .handback ∧ accept.code = 0 ∧
        s.jobs = [jobOf .put] ∧ s.active = some JobContext.fresh ∧ (s.link (jobOf .put).linkIndex).ring = plain 1 :: [last 2]) ∧
      (t.exchange = some (exchangeOf .put .outbound) ∧ t.bus.activity = .sending ∧
        (t.link (jobOf .put).linkIndex).ring = plain 1 :: last 2 :: [] ∧
        (exchangeOf .put .outbound).framesDone + 1 ≠ (exchangeOf .put .outbound).length.toNat) := by decide

/-- The third frame of three, at the limit of 5 with 2 bytes moved, and short of it with none. -/
theorem test_witness_LastPutAckEndsExchange :
    let e := { exchangeOf .put .outbound with framesDone := 2 }
    let s := busy .put .running (inExchange e .sending .frame (withLink (linkOf .opened .output [plain 1]) State.reset))
    s.exchange = some e ∧ e.length.toNat = e.framesDone + 1 ∧ e.markReceived = false ∧ e.statusByte = none ∧
      e.testResult = none ∧ s.bus.activity = .sending ∧ s.bus.waiting = none ∧ s.seq.state = .running ∧
      s.jobs = [jobOf .put] ∧ s.active = some JobContext.fresh ∧ (s.link (jobOf .put).linkIndex).ring = plain 1 :: [] ∧
      s.bus.frame.mark = false ∧ JobContext.fresh.bytesMoved + e.length.toNat ≠ (jobOf .put).limit.toNat ∧
      ({ JobContext.fresh with bytesMoved := 2 } : JobContext).bytesMoved + e.length.toNat = (jobOf .put).limit.toNat := by
  decide

theorem test_witness_ProbeTestFrames :
    let e := clockedExchange .probe .outbound
    let s := busy .probe .running (inExchange e .sending .frame State.reset)
    s.exchange = some e ∧ s.bus.activity = .sending ∧ s.jobs = [jobOf .probe] ∧ s.active = some JobContext.fresh ∧
      e.testPassed = 0 ∧ ({ e with testPassed := 1 } : Exchange).testPassed = 1 ∧ s.seq.state = .running ∧
      s.bus.waiting = none ∧ e.framesDone = 0 ∧ e.markReceived = false ∧ e.statusByte = none ∧
      JobContext.fresh.testClk = false := by decide

theorem test_witness_ProbeHandback :
    let e : Exchange := { exchangeOf .probe .handback with length := 2 }
    let f : Exchange := { e with length := 0 }
    let s := busy .probe .running (inExchange f .handback .turn State.reset)
    s.exchange = some f ∧ f.kind = .probe ∧ s.bus.activity = .handback ∧ f.answer = some accept ∧ accept.code = 0 ∧
      e.length = 2 ∧ e.testPassed = 0 ∧ f.length = 0 ∧ s.seq.state = .running ∧ s.bus.waiting = none ∧
      s.jobs = [jobOf .probe] ∧ s.active = some JobContext.fresh ∧ f.framesDone = 0 ∧ f.testResult = none ∧
      JobContext.fresh.probe = .none := by decide

/-- With the busy limit of 3 at reset: the third BUSY is held, the fourth ends the job. -/
theorem test_witness_BusyHandback :
    let a : Answer := { accept with code := 1 }
    let e := { exchangeOf .put .handback with answer := some a }
    let s := busy .put .running (inExchange e .handback .turn State.reset)
    s.exchange = some e ∧ s.bus.activity = .handback ∧ s.bus.waiting = none ∧ e.answer = some a ∧ a.code = 1 ∧
      e.framesDone = 0 ∧ e.markReceived = false ∧ e.statusByte = none ∧ e.testResult = none ∧ s.jobs = [jobOf .put] ∧
      ({ JobContext.fresh with busyCount := 2 } : JobContext).busyCount + 1 ≤ s.settings.busyLimit.toNat ∧
      s.settings.busyDelay ≠ 0 ∧
      s.settings.busyLimit.toNat < ({ JobContext.fresh with busyCount := 3 } : JobContext).busyCount + 1 := by decide

/-- A delay of 0, at which the repeat of a PUT and of an OPEN begins at once; the limit met by an OPEN and a SHUT. -/
theorem test_witness_BusyHandback_repeats :
    let a : Answer := { accept with code := 1 }
    let e := { exchangeOf .put .handback with answer := some a }
    let g := { Settings.reset with busyDelay := 0 }
    let s := (busy .put .running (inExchange e .handback .turn (withLink (linkOf .opened .output [plain 1])
      State.reset))).setSettings g
    let f := { exchangeOf .openChannel .handback with answer := some a }
    let t := (busy .openLink .running (inExchange f .handback .turn (withLink (linkOf .opening .output [])
      State.reset))).setSettings g
    (s.settings.busyDelay = 0 ∧ s.exchange = some e ∧ JobContext.fresh.busyCount + 1 ≤ s.settings.busyLimit.toNat ∧
        s.NextExchange (jobOf .put) JobContext.fresh (Exchange.fresh .put 2 2 .output false 1)) ∧
      (t.exchange = some f ∧
        t.NextExchange (jobOf .openLink) JobContext.fresh (Exchange.fresh .openChannel 2 2 .output false 0) ∧
        (jobOf .openLink).kind ∈ [.openLink, .shut] ∧ (t.link (jobOf .openLink).linkIndex).holder = none ∧
        t.settings.busyLimit.toNat < ({ JobContext.fresh with busyCount := 3 } : JobContext).busyCount + 1) := by decide

/-- An OPEN past the busy limit whose link a channel holds. -/
theorem test_witness_BusyLimitStopsBoundChannel :
    let a : Answer := { accept with code := 1 }
    let e := { exchangeOf .openChannel .handback with answer := some a }
    let l : Link := { linkOf .opening .output [] with holder := some .a }
    let s := (busy .openLink .running (inExchange e .handback .turn (moverOn .output 2 (withLink l State.reset)))).setActive
      (some { JobContext.fresh with busyCount := 3 })
    s.exchange = some e ∧ s.bus.activity = .handback ∧ s.bus.waiting = none ∧ e.answer = some a ∧ a.code = 1 ∧
      s.seq.state = .running ∧ s.jobs = [jobOf .openLink] ∧ s.settings.busyLimit.toNat < 3 + 1 ∧
      (s.link (jobOf .openLink).linkIndex).holder = some .a ∧ (s.chan .a).running = true := by decide

theorem test_witness_LinkJobHandbacks :
    let e := exchangeOf .openChannel .handback
    let s := busy .openLink .running (inExchange e .handback .turn (withLink (linkOf .opening .output []) State.reset))
    let f := exchangeOf .shut .handback
    let t := busy .shut .running (inExchange f .handback .turn (withLink (linkOf .shutting .output [plain 1]) State.reset))
    (s.exchange = some e ∧ e.kind = .openChannel ∧ s.bus.activity = .handback ∧ s.bus.waiting = none ∧
        e.answer = some accept ∧ accept.code = 0 ∧ s.seq.state = .running ∧ s.jobs = [jobOf .openLink] ∧
        s.active = some JobContext.fresh ∧ e.framesDone = 0 ∧ e.markReceived = false ∧ e.testResult = none) ∧
      (t.exchange = some f ∧ f.kind = .shut ∧ t.jobs = [jobOf .shut] ∧ (t.link (jobOf .shut).linkIndex).holder = none) := by
  decide

/-- A SHUT answered ACCEPT and WRONG-STATE, with a channel that drains its Shutting link. -/
theorem test_witness_ShutHandbackStopsChannel :
    let e := exchangeOf .shut .handback
    let l : Link := { linkOf .shutting .input [plain 1] with holder := some .a }
    let s := busy .shut .running (inExchange e .handback .turn (moverOn .input 2 (withLink l State.reset)))
    s.exchange = some e ∧ e.kind = .shut ∧ s.bus.activity = .handback ∧ s.bus.waiting = none ∧ e.answer = some accept ∧
      ({ accept with code := 4 } : Answer).code = 4 ∧ s.seq.state = .running ∧ s.jobs = [jobOf .shut] ∧
      s.active = some JobContext.fresh ∧ (s.link (jobOf .shut).linkIndex).holder = some .a ∧ (s.chan .a).running = true ∧
      s.moving .a = false ∧ (moving none s).moving .a = true := by decide

/-- A TAKE of limit 5: three bytes with a mark and without, at the limit, and EMPTY; a PUT answered NO-CHANNEL. -/
theorem test_witness_TakeHandbacks :
    let e : Exchange := { exchangeOf .take .handback with framesDone := 3 }
    let s := busy .take .running (inExchange e .handback .turn State.reset)
    let t := busy .put .running (inExchange { exchangeOf .put .handback with answer := some { accept with code := 3 } }
      .handback .turn State.reset)
    (s.exchange = some e ∧ e.kind = .take ∧ s.bus.activity = .handback ∧ s.bus.waiting = none ∧ e.answer = some accept ∧
        s.seq.state = .running ∧ s.jobs = [jobOf .take] ∧ s.active = some JobContext.fresh ∧ e.statusByte = none ∧
        e.testResult = none ∧ (JobContext.fresh.msgEnd || e.markReceived) = false ∧
        JobContext.fresh.bytesMoved + e.framesDone ≠ (jobOf .take).limit.toNat ∧
        2 + e.framesDone = (jobOf .take).limit.toNat ∧ ({ e with markReceived := true } : Exchange).markReceived = true ∧
        ({ accept with code := 2 } : Answer).code = 2) ∧
      (t.jobs = [jobOf .put] ∧ ({ accept with code := 3 } : Answer).code = 3) := by decide

theorem test_witness_AnswerTimeoutReport :
    let s := busy .put .running (inExchange (exchangeOf .put .answer) .turnaround .answer State.reset)
    let t := inExchange (exchangeOf .put .header) .header .frame State.reset
    let u := inExchange (exchangeOf .put .header) .clearing .turn State.reset
    (s.exchange = some (exchangeOf .put .answer) ∧ s.bus.activity = .turnaround ∧ s.bus.timing .answer = true ∧
        s.seq.state = .running) ∧
      ((exchangeOf .put .header).phase = .header ∧ t.bus.activity = .header ∧ t.bus.timing .frame = true ∧
        t.settings.frameLimit.toNat < ({ t.bus with nakCount := 2 } : BusUnit).nakCount + 1 ∧
        u.bus.activity = .clearing ∧ u.bus.timing .turn = true) := by decide

theorem test_witness_ClockedPhaseGoodReport :
    let e := { clockedExchange .put .outbound with framesDone := 2 }
    let f := { clockedExchange .take .inbound with framesDone := 2 }
    e.isClocked = true ∧ (inExchange e .sending .frame State.reset).bus.activity = .sending ∧
      e.framesDone + 1 = e.length.toNat ∧ f.isClocked = true ∧
      (inExchange f .receiving .frame State.reset).bus.activity = .receiving ∧ f.framesDone + 1 = f.length.toNat := by
  decide

theorem test_witness_FailedExchangeEndsJob :
    let e := Exchange.fresh .status 2 0 .output false 0
    let s := busy .status .running (inExchange e .turnaround .answer State.reset)
    let f := { exchangeOf .put .cut with outcome := some .frameTimeout }
    let t := busy .put .cutting (inExchange f .cutting .turn State.reset)
    (s.exchange = some e ∧ s.bus.activity = .turnaround ∧ s.bus.timing .answer = true ∧ s.bus.waiting = none ∧
        s.seq.state = .running ∧ s.jobs = [jobOf .status] ∧ s.active = some JobContext.fresh ∧ e.markReceived = false ∧
        e.statusByte = none ∧ e.testResult = none) ∧
      (t.bus.activity = .cutting ∧ t.bus.waiting = none ∧ t.seq.state = .cutting ∧ t.exchange = some f ∧
        t.active = some JobContext.fresh ∧ t.jobs = [jobOf .put] ∧ f.outcome = some .frameTimeout ∧
        f.markReceived = false ∧ f.testResult = none ∧ (t.setActive none).active = none) := by decide

/-- The link jobs: a SHUT and an OPEN at an answer timeout and at a CUT's completion, an OPEN cut after its ACCEPT. -/
theorem test_witness_FailedExchangeEndsLinkJob :
    let e := Exchange.fresh .shut 2 2 .output false 0
    let s := busy .shut .running (inExchange e .turnaround .answer (withLink (linkOf .shutting .output [plain 1])
      State.reset))
    let f : Exchange := { exchangeOf .openChannel .cut with outcome := some .turnError }
    let t := busy .openLink .cutting (inExchange f .cutting .turn (withLink (linkOf .opening .output []) State.reset))
    (s.exchange = some e ∧ s.bus.activity = .turnaround ∧ s.bus.timing .answer = true ∧ s.bus.waiting = none ∧
        s.jobs = [jobOf .shut] ∧ s.active = some JobContext.fresh ∧ (s.link (jobOf .shut).linkIndex).holder = none) ∧
      (t.exchange = some f ∧ t.bus.activity = .cutting ∧ t.seq.state = .cutting ∧ t.jobs = [jobOf .openLink] ∧
        f.outcome = some .turnError ∧ f.answer.any (·.code == 0) = true ∧
        ¬(({ f with answer := none } : Exchange).answer.any (·.code == 0) = true) ∧
        (t.link (jobOf .openLink).linkIndex).holder = none) := by decide

/-- A SHUT at an answer timeout and an OPEN at a CUT's completion, with a channel bound to the link. -/
theorem test_witness_FailedLinkJobStopsChannel :
    let e := Exchange.fresh .shut 2 2 .output false 0
    let l : Link := { linkOf .shutting .input [plain 1] with holder := some .a }
    let o : Link := { linkOf .opening .output [] with holder := some .a }
    let s := busy .shut .running (inExchange e .turnaround .answer (moverOn .input 2 (withLink l State.reset)))
    let f : Exchange := { exchangeOf .openChannel .cut with answer := none, outcome := some .frameError }
    let t := busy .openLink .cutting (inExchange f .cutting .turn (moverOn .output 2 (withLink o State.reset)))
    (s.exchange = some e ∧ s.bus.activity = .turnaround ∧ s.bus.timing .answer = true ∧ s.seq.state = .running ∧
        s.jobs = [jobOf .shut] ∧ (s.link (jobOf .shut).linkIndex).holder = some .a ∧ (s.chan .a).running = true) ∧
      (t.exchange = some f ∧ t.bus.activity = .cutting ∧ t.seq.state = .cutting ∧ f.outcome = some .frameError ∧
        t.jobs = [jobOf .openLink] ∧ (t.link (jobOf .openLink).linkIndex).holder = some .a ∧
        (t.chan .a).running = true) := by decide

/-! Resets and laws. -/

theorem test_witness_PulseCompletionResult :
    let s := busy .busReset .resetting State.reset
    let t := s.setBus { s.bus with activity := .pulsing }
    let o := moverOn .output 2 (withLink { linkOf .opened .output [] with holder := some .a } t)
    let i := moverOn .input 2 (withLink { linkOf .opened .input [] with holder := some .a } t)
    (t.bus.activity = .pulsing ∧ t.bus.waiting = none ∧ t.seq.state = .resetting ∧ t.jobs = [jobOf .busReset] ∧
        t.active = some JobContext.fresh ∧ t.attention.scan = none ∧
        ∀ i : LinkIndex, (t.link i).state = .opened → (t.link i).dir = .output → (t.link i).holder = none) ∧
      (o.HolderLaw ∧ (o.link 0).holder = some .a ∧ (o.link 0).state = .opened ∧ (o.link 0).dir = .output ∧
        o.moving .a = false ∧ (moving none o).moving .a = true ∧ (o.chan .a).stopPending = none) ∧
      (i.HolderLaw ∧ (i.link 0).dir = .input) := by decide

/-- Channel A on Open OUT link 0, alone and with channel B on Open OUT link 1, and with a move of A or of none in progress. -/
theorem test_witness_PulseCompletionWithBoundChannels :
    let s := busy .busReset .resetting State.reset
    let o := moverOn .output 2 (withLink { linkOf .opened .output [] with holder := some .a }
      (s.setBus { s.bus with activity := .pulsing }))
    let t := (o.setLink 1 { linkOf .opened .output [] with channel := 3, pages := [1], holder := some .b }).setChan .b
      { o.chan .b with running := true, link := 1 }
    (o.bus.activity = .pulsing ∧ o.bus.waiting = none ∧ o.seq.state = .resetting ∧ o.jobs = [jobOf .busReset] ∧
        o.active = some JobContext.fresh ∧ o.attention.scan = none ∧ (o.link 0).state = .opened ∧
        (o.link 0).dir = .output ∧ (o.link 0).holder = some .a ∧ (o.chan .a).running = true ∧
        ∀ n : LinkIndex, (o.link n).state = .opened → (o.link n).dir = .output → (o.link n).holder ≠ some .b) ∧
      ((t.link 1).state = .opened ∧ (t.link 1).dir = .output ∧ (t.link 1).holder = some (Chan.other .a) ∧
        (t.chan .b).running = true ∧ t.moving .a = false ∧ t.moving .b = false ∧ (moving none t).moving .a = true) := by
  decide

theorem test_witness_SoftResetResult :
    let e := exchangeOf .status .inbound
    let s := busy .status .running (inExchange e .receiving .frame State.reset)
    let p := busy .busReset .resetting State.reset
    (s.BusLaw ∧ s.exchange = some e ∧ s.pins.askLine = false ∧ s.windowShut = false ∧ s.bus.activity ≠ .pulsing) ∧
      ((p.setBus { p.bus with activity := .pulsing }).BusLaw ∧ p.seq.state = .resetting) ∧
      (State.reset.BusLaw ∧ State.reset.exchange = none) := by decide

/-- The law of the station bus holds of a scan with an exchange in progress, with ASK asserted, and with a byte move. -/
theorem test_witness_SoftResetWhole :
    let s := scanning (inExchange { exchangeOf .status .inbound with statusByte := none } .receiving .frame State.reset)
    let t := s.setPins { Pins.reset with askLine := true }
    s.BusLaw ∧ t.BusLaw ∧ t.windowShut = false ∧ (moving (some (plain 1)) t).windowShut = false := by decide

/-- The reset state meets the premises of every law statement; a step from it with a command waiting answers a next state. -/
theorem test_witness_queue_bus_slot_laws :
    State.reset.QueueLaw ∧ State.reset.BusLaw ∧ State.reset.SlotLaw ∧ State.reset.PaceLaw ∧
      State.reset.scanFits = true := by decide

/-- A Clocked PUT in its data phase, short of its limit, keeps the laws a data phase rests on. -/
theorem test_witness_laws_in_a_data_phase :
    let s := busy .put .running (inExchange { clockedExchange .put .outbound with framesDone := 1 } .sending .frame
      (withLink (linkOf .opened .output [plain 1]) State.reset))
    s.QueueLaw ∧ s.BusLaw ∧ s.HolderLaw ∧ s.LimitLaw ∧ s.RingLaw ∧ s.PaceLaw := by decide

theorem test_witness_page_law : State.reset.PageLaw := by decide

theorem test_witness_endpoint_laws : State.reset.LinkJobLaw ∧ State.reset.EndpointLaw := by decide

theorem test_witness_ring_laws : State.reset.HolderLaw ∧ State.reset.LimitLaw ∧ State.reset.RingLaw := by decide

theorem test_witness_step :
    step ((queued .take).setPending [.post]) = .next (after .post (queued .take)) := rfl

theorem test_witness_JobTallyIsKept :
    Instr.nextStep ∉ [Instr.post, .pop, .purge, .softReset, .pinReset] ∧ Instr.nextStep.wellFormed = true ∧
      exec .noPattern (queued .put) = .next (queued .put) := ⟨by decide, by decide, rfl⟩

/-- A PUT of a Clocked-capable station between exchanges: its next step builds a header with the pace request. -/
theorem test_witness_PaceRequestNeedsClockedStation :
    let s := (busy .put .running (withLink (linkOf .opened .output [plain 1]) State.reset)).setStation 2
      { Station.reset with capability := .clockedCapable }
    s.exchange = none ∧ (after .nextStep s).exchange.map (·.paceRequest) = some true := by decide

/-- The same PUT at a BUSY handback with BUSY-DELAY 0: the event ends one exchange and builds the header of the next. -/
theorem test_witness_PaceRequestAtARepeat :
    let e := { exchangeOf .put .handback with answer := some { accept with code := 1 } }
    let s := ((busy .put .running (inExchange e .handback .turn (withLink (linkOf .opened .output [plain 1])
      State.reset))).setStation 2 { Station.reset with capability := .clockedCapable }).setSettings
        { Settings.reset with busyDelay := 0 }
    s.exchange = some e ∧ (after .handback s).exchange = some (Exchange.fresh .put 2 2 .output true 1) := by decide

end Sys2Proof.Tests
end

/-! # What the laws of the job queue and of the station bus look at (R2, R86, R89)

Few parts of the state decide these laws. `State.busView` gathers them, so that one lemma per operation says what the
operation does to the laws: most operations leave the view as it was. -/

namespace Sys2Proof.Machine

/-! ### The view -/

/-- The parts of the state that the laws of R2, R86 and R89 speak of. -/
structure BusView where
  activity : Activity
  waiting : Option BusRequest
  exchange : Option Exchange
  jobs : List Job
  active : Bool
  seq : SeqState
  scanning : Bool

/-- The view of a state. -/
def State.busView (s : State) : BusView :=
  { activity := s.bus.activity, waiting := s.bus.waiting, exchange := s.exchange, jobs := s.jobs,
    active := s.active.isSome, seq := s.seq.state, scanning := s.attention.scan.isSome }

@[simp] theorem State.busView_activity (s : State) : s.busView.activity = s.bus.activity := rfl
@[simp] theorem State.busView_waiting (s : State) : s.busView.waiting = s.bus.waiting := rfl
@[simp] theorem State.busView_exchange (s : State) : s.busView.exchange = s.exchange := rfl
@[simp] theorem State.busView_jobs (s : State) : s.busView.jobs = s.jobs := rfl
@[simp] theorem State.busView_active (s : State) : s.busView.active = s.active.isSome := rfl
@[simp] theorem State.busView_seq (s : State) : s.busView.seq = s.seq.state := rfl
@[simp] theorem State.busView_scanning (s : State) : s.busView.scanning = s.attention.scan.isSome := rfl

/-- The bus carries the exchange in progress, and is Free while there is none (section 2.1). -/
def BusView.Carries (v : BusView) : Prop :=
  match v.exchange with
  | some e => e.phase.fits v.activity = true ∧ e.outcomeFits = true
  | none => v.activity = .free

/-- The head job is a BUSRESET. -/
def BusView.headIsBusReset (v : BusView) : Bool := v.jobs.head?.any fun j => j.kind == .busReset

/-- What each state of the sequencer asks of the contexts and the bus unit (R2, R89). -/
def BusView.SeqLaw (v : BusView) : Prop :=
  match v.seq with
  | .idle => v.active = false ∧ v.scanning = false ∧ v.exchange = none ∧ v.activity = .free
  | .running => v.active = true ∧ v.scanning = false ∧ v.headIsBusReset = false ∧ v.Carries
  | .holding =>
    v.active = true ∧ v.scanning = false ∧ v.headIsBusReset = false ∧ v.exchange = none ∧ v.activity = .free
  | .cutting =>
    v.scanning = false ∧ ∃ e, v.exchange = some e ∧ e.phase = .cut ∧ e.outcomeFits = true ∧ v.activity = .cutting
  | .scanning => v.active = false ∧ v.scanning = true ∧ v.Carries
  | .resetting =>
    v.active = true ∧ v.scanning = false ∧ v.headIsBusReset = true ∧ v.exchange = none ∧ v.activity = .pulsing

/-- The laws of the job queue and of the station bus, on the view. -/
structure BusView.Lawful (v : BusView) : Prop where
  room : v.jobs.length ≤ Config.jobLimit
  head : v.active = true → v.jobs ≠ []
  waiting : v.waiting = none
  seq : v.SeqLaw

/-- No phase of an exchange goes with Free or with a pulse (section 2.1). -/
theorem Phase.fits_busy {p : Phase} {a : Activity} (h : p.fits a = true) : a ≠ .free ∧ a ≠ .pulsing := by
  constructor <;> rintro rfl <;> cases p <;> simp [Phase.fits] at h

theorem BusView.Carries.not_pulsing {v : BusView} (h : v.Carries) : v.activity ≠ .pulsing := by
  unfold BusView.Carries at h
  split at h
  · exact (Phase.fits_busy h.1).2
  · simp [h]

/-- What `State.busFits` says: the bus carries the exchange in progress, or there is none and a pulse. -/
theorem State.busFits_iff (s : State) :
    s.busFits = true ↔ s.busView.Carries ∨ (s.exchange = none ∧ s.bus.activity = .pulsing) := by
  unfold State.busFits BusView.Carries
  cases hx : s.exchange <;> simp [hx]

/-- The law of the station bus, on the view (R2, R89). -/
theorem State.busLaw_iff (s : State) : s.BusLaw ↔ s.busView.waiting = none ∧ s.busView.SeqLaw := by
  have carried (c : s.busView.Carries) : s.bus.activity ≠ .pulsing := c.not_pulsing
  constructor
  · rintro ⟨waiting, fits, sq, pulse⟩
    refine ⟨waiting, ?_⟩
    unfold State.seqFits at sq
    rcases s.busFits_iff.mp fits with carries | ⟨hx, hp⟩
    · have np := carried carries
      cases hq : s.seq.state <;>
        simp_all [BusView.SeqLaw, BusView.Carries, State.headIsBusReset, BusView.headIsBusReset, Option.any_eq_true]
      all_goals grind [Phase.fits]
    · have hq := pulse.mp hp
      simp_all [BusView.SeqLaw, State.headIsBusReset, BusView.headIsBusReset]
  · rintro ⟨waiting, seq⟩
    refine ⟨waiting, s.busFits_iff.mpr ?_, ?_⟩
    all_goals
      cases hq : s.seq.state <;>
        simp_all [BusView.SeqLaw, BusView.Carries, State.seqFits, State.headIsBusReset, BusView.headIsBusReset, Phase.fits]
    all_goals grind [Phase.fits]

/-- The view's laws are the laws of the job queue and of the station bus. -/
theorem State.busView_lawful_iff (s : State) : s.busView.Lawful ↔ s.QueueLaw ∧ s.BusLaw := by
  rw [s.busLaw_iff]
  exact ⟨fun ⟨room, head, waiting, seq⟩ => ⟨⟨room, head⟩, waiting, seq⟩,
    fun ⟨⟨room, head⟩, waiting, seq⟩ => ⟨room, head, waiting, seq⟩⟩

/-! ### Operations that leave the view as it was -/

section Unchanged
variable (s : State)

@[simp] theorem State.busView_setStations (x) : (s.setStations x).busView = s.busView := rfl
@[simp] theorem State.busView_setLinks (x) : (s.setLinks x).busView = s.busView := rfl
@[simp] theorem State.busView_setFreePages (x) : (s.setFreePages x).busView = s.busView := rfl
@[simp] theorem State.busView_setEvents (x) : (s.setEvents x).busView = s.busView := rfl
@[simp] theorem State.busView_setPort (x) : (s.setPort x).busView = s.busView := rfl
@[simp] theorem State.busView_setMover (x) : (s.setMover x).busView = s.busView := rfl
@[simp] theorem State.busView_setWindow (x) : (s.setWindow x).busView = s.busView := rfl
@[simp] theorem State.busView_setSettings (x) : (s.setSettings x).busView = s.busView := rfl
@[simp] theorem State.busView_setPins (x) : (s.setPins x).busView = s.busView := rfl
@[simp] theorem State.busView_setFreeTick (x) : (s.setFreeTick x).busView = s.busView := rfl
@[simp] theorem State.busView_setPending (x) : (s.setPending x).busView = s.busView := rfl
@[simp] theorem State.busView_setLink (i x) : (s.setLink i x).busView = s.busView := rfl
@[simp] theorem State.busView_setChan (c x) : (s.setChan c x).busView = s.busView := rfl
@[simp] theorem State.busView_taken : s.taken.busView = s.busView := rfl
@[simp] theorem State.busView_refuse (r) : (s.refuse r).busView = s.busView := rfl
@[simp] theorem State.busView_readBack (v) : (s.readBack v).busView = s.busView := rfl
@[simp] theorem State.busView_reserve (h) : (s.reserve h).busView = s.busView := rfl
@[simp] theorem State.busView_post (h e) : (s.post h e).busView = s.busView := rfl
@[simp] theorem State.busView_reportStation (i f) : (s.reportStation i f).busView = s.busView := rfl
@[simp] theorem State.busView_returnPages (p) : (s.returnPages p).busView = s.busView := rfl
@[simp] theorem State.busView_startRun (c) : (s.startRun c).busView = s.busView := rfl
@[simp] theorem State.busView_endRun (c r) : (s.endRun c r).busView = s.busView := rfl

@[simp] theorem State.busView_postAmong (k h e) : (s.postAmong k h e).busView = s.busView := by
  unfold State.postAmong; split <;> rfl

@[simp] theorem State.busView_setQroomOnFall (m n) : (s.setQroomOnFall m n).busView = s.busView := by
  unfold State.setQroomOnFall; split <;> rfl

@[simp] theorem State.busView_judgeLatch : s.judgeLatch.busView = s.busView := by
  unfold State.judgeLatch; split <;> rfl

@[simp] theorem State.busView_mapActive (f) : (s.mapActive f).busView = s.busView := by
  simp [State.mapActive, State.busView]

@[simp] theorem State.busView_mapJobLink (f) : (s.mapJobLink f).busView = s.busView := by
  unfold State.mapJobLink; split <;> rfl

@[simp] theorem State.busView_putBackByte (e) : (s.putBackByte e).busView = s.busView := by
  unfold State.putBackByte; split <;> simp

@[simp] theorem State.busView_reportPace (i f) : (s.reportPace i f).busView = s.busView := by
  unfold State.reportPace; simp only; split <;> simp

@[simp] theorem State.busView_failureReports (e o) : (s.failureReports e o).busView = s.busView := by
  unfold State.failureReports; split
  · simp
  · split <;> simp

@[simp] theorem State.busView_goodPhase (e) : (s.goodPhase e).busView = s.busView := by
  unfold State.goodPhase; split <;> simp

@[simp] theorem State.busView_recordVisit (e o) : (s.recordVisit e o).busView = s.busView := by
  unfold State.recordVisit; split <;> split <;> simp

@[simp] theorem State.busView_recordClaim (e v) : (s.recordClaim e v).busView = s.busView := by
  unfold State.recordClaim; split
  case h_1 x a _ hx _ => split <;> simp [State.busView, hx]
  case h_2 => rfl

@[simp] theorem State.busView_stopChannel (c r) : (s.stopChannel c r).busView = s.busView := by
  unfold State.stopChannel; simp only; split
  · split <;> simp
  · rfl

@[simp] theorem State.busView_closeLink (i r) : (s.closeLink i r).busView = s.busView := by
  unfold State.closeLink; simp only; split <;> simp

@[simp] theorem State.busView_shutOpenLink (i) : (s.shutOpenLink i).busView = s.busView := by
  unfold State.shutOpenLink; simp only; split <;> simp

@[simp] theorem State.busView_cleanUp (i c) : (s.cleanUp i c).1.busView = s.busView := by
  cases c <;> simp [State.cleanUp]

@[simp] theorem State.busView_startMove (c) : (s.startMove c).busView = s.busView := by
  unfold State.startMove; simp only; split
  · rfl
  · split <;> rfl

@[simp] theorem State.busView_nextMove : s.nextMove.busView = s.busView := by
  unfold State.nextMove; split
  · split <;> simp
  · rfl

@[simp] theorem State.busView_finishMove (m b) : (s.finishMove m b).1.busView = s.busView := by
  unfold State.finishMove; simp only; split <;> split <;> rfl

@[simp] theorem State.busView_completeMove (m b) : (s.completeMove m b).busView = s.busView := by
  unfold State.completeMove; simp only; split <;> simp

@[simp] theorem State.busView_loseLinks : s.loseLinks.busView = s.busView := by
  unfold State.loseLinks; simp only; split
  · split <;> simp
  all_goals simp

@[simp] theorem State.busView_clearAttention : s.clearAttention.busView = s.busView := by
  simp only [State.clearAttention, State.busView_judgeLatch]; rfl

@[simp] theorem State.busView_resetByPulse : s.resetByPulse.busView = s.busView := by
  simp [State.resetByPulse]

@[simp] theorem State.busView_readEffect (r) : (s.readEffect r).busView = s.busView := by
  unfold State.readEffect; split <;> rfl

@[simp] theorem State.busView_autoStep : s.autoStep.busView = s.busView := by
  unfold State.autoStep; split <;> rfl

@[simp] theorem State.busView_dataRead : s.dataRead.busView = s.busView := by
  unfold State.dataRead; simp only; split <;> simp

@[simp] theorem State.busView_portRead : s.portRead.busView = s.busView := by
  unfold State.portRead; split <;> rfl

@[simp] theorem State.busView_portWrite (v) : (s.portWrite v).busView = s.busView := by
  unfold State.portWrite; split <;> rfl

@[simp] theorem State.busView_portMark : s.portMark.busView = s.busView := by
  unfold State.portMark; split <;> rfl

@[simp] theorem State.busView_portSkip : s.portSkip.busView = s.busView := by
  unfold State.portSkip; split <;> rfl

@[simp] theorem State.busView_moverStart (c) : (s.moverStart c).busView = s.busView := by
  unfold State.moverStart; split <;> simp

@[simp] theorem State.busView_moverStop (c) : (s.moverStop c).busView = s.busView := by
  unfold State.moverStop; split <;> simp

@[simp] theorem State.busView_moveCompletion (b) : (s.moveCompletion b).busView = s.busView := by
  unfold State.moveCompletion; split <;> simp

@[simp] theorem State.busView_noPattern : s.noPattern.busView = s.busView := by
  unfold State.noPattern; split <;> rfl

@[simp] theorem State.busView_answerTenthBit : s.answerTenthBit.busView = s.busView := by
  unfold State.answerTenthBit; split <;> rfl

/-- A new value for the attention unit that scans exactly when the old one did. -/
theorem State.busView_setAttention (x : Attention) (h : x.scan.isSome = s.attention.scan.isSome) :
    (s.setAttention x).busView = s.busView := by
  simp [State.busView, h]

end Unchanged

/-! ### Operations that change the view -/

section Changed
variable (s : State)

@[simp] theorem State.busView_setExchange (x) : (s.setExchange x).busView = { s.busView with exchange := x } := rfl
@[simp] theorem State.busView_setJobs (x) : (s.setJobs x).busView = { s.busView with jobs := x } := rfl
@[simp] theorem State.busView_setActive (x) : (s.setActive x).busView = { s.busView with active := x.isSome } := rfl
@[simp] theorem State.busView_setSeqState (q) : (s.setSeqState q).busView = { s.busView with seq := q } := rfl

@[simp] theorem State.busView_setSeq (x) : (s.setSeq x).busView = { s.busView with seq := x.state } := rfl

@[simp] theorem State.busView_setBus (x) :
    (s.setBus x).busView = { s.busView with activity := x.activity, waiting := x.waiting } := rfl

@[simp] theorem State.busView_sendFrame (a f) : (s.sendFrame a f).busView = { s.busView with activity := a } := rfl

theorem State.busView_busToFree (h : s.bus.waiting = none) :
    s.busToFree.busView = { s.busView with activity := .free, waiting := none } := by
  simp [State.busToFree, BusUnit.toFree_of_nothing_waiting _ _ h, BusUnit.inFree]

theorem State.busView_startCut (h : s.bus.activity ≠ .pulsing) :
    s.startCut.busView = { s.busView with activity := .cutting, waiting := none } := by
  simp [State.startCut, BusUnit.startCut_of_not_pulsing _ h, BusUnit.inCut]

/-- A header request of a Free bus unit begins at once (R2, R20). -/
theorem State.busView_beginExchange (e : Exchange) (h : s.bus.activity = .free) :
    (s.beginExchange e).busView = { s.busView with exchange := some e, activity := .clearing } := by
  simp [State.beginExchange, State.requestBus, BusUnit.request_of_free _ _ _ h, BusUnit.startClearing, State.busView]

/-- A pulse request of a Free bus unit begins at once (R2, R110). -/
theorem State.busView_requestPulse (h : s.bus.activity = .free) :
    (s.requestBus .pulse).busView = { s.busView with activity := .pulsing } := by
  simp [State.requestBus, BusUnit.request_of_free _ _ _ h, BusUnit.startPulse, State.busView]

theorem State.busView_beginVisit (x : Scan) (i : StationIndex) (h : s.bus.activity = .free) :
    (s.beginVisit x i).busView =
      { s.busView with exchange := some (statusExchange i), activity := .clearing, scanning := true } := by
  rw [State.beginVisit, State.busView_beginExchange _ _ (by simpa using h)]; rfl

@[simp] theorem State.busView_leaveQueue :
    s.leaveQueue.busView =
      { s.busView with jobs := s.busView.jobs.tail, active := false, exchange := none, seq := .idle } := by
  simp [State.leaveQueue]

@[simp] theorem State.busView_leaveScan : s.leaveScan.busView = { s.busView with seq := .idle, scanning := false } := by
  simp only [State.leaveScan, State.busView_judgeLatch]; rfl

/-- A scan's end, with its claimant or without, leaves the scan (R127, R128). -/
@[simp] theorem State.busView_endScanClaimed (x : Scan) (i v r) :
    (s.endScanClaimed x i v r).busView = { s.busView with seq := .idle, scanning := false } := by
  simp only [State.endScanClaimed, State.busView_leaveScan]; rfl

@[simp] theorem State.busView_endScanUnclaimed (x : Scan) :
    (s.endScanUnclaimed x).busView = { s.busView with seq := .idle, scanning := false } := by
  simp only [State.endScanUnclaimed, State.busView_leaveScan]; rfl

/-- The Active job is there exactly when the view shows one: the head of a queue that is not empty. -/
theorem State.activeJob_of_active (ha : s.busView.active = true) (hj : s.busView.jobs ≠ []) :
    ∃ j x rest, s.jobs = j :: rest ∧ s.active = some x ∧ s.activeJob = some (j, x) := by
  obtain ⟨x, hx⟩ := Option.isSome_iff_exists.mp ha
  cases h : s.jobs with
  | nil => exact absurd h hj
  | cons j rest => exact ⟨j, x, rest, rfl, hx, by simp [State.activeJob, h, hx]⟩

/-- The end of an Active job (R115). -/
theorem State.busView_endJobSince (n r c) (ha : s.busView.active = true) (hj : s.busView.jobs ≠ []) :
    (s.endJobSince n r c).busView =
      { s.busView with jobs := s.busView.jobs.tail, active := false, exchange := none, seq := .idle } := by
  obtain ⟨j, x, rest, -, -, hact⟩ := s.activeJob_of_active ha hj
  simp only [State.endJobSince, hact, State.busView_leaveQueue, State.busView_postAmong, State.busView_cleanUp]

end Changed

/-! ### The laws across the operations of the sequencer -/

/-- An Active job with the bus at rest: what the end of a job needs to leave a lawful state. -/
structure BusView.JobAtRest (v : BusView) : Prop where
  room : v.jobs.length ≤ Config.jobLimit
  head : v.jobs ≠ []
  active : v.active = true
  waiting : v.waiting = none
  scanning : v.scanning = false
  exchange : v.exchange = none
  free : v.activity = .free

/-- A Running job between its exchanges (R98): what the start of an exchange needs. -/
structure BusView.BetweenExchanges (v : BusView) : Prop extends v.JobAtRest where
  running : v.seq = .running
  notReset : v.headIsBusReset = false

theorem BusView.BetweenExchanges.lawful {v : BusView} (h : v.BetweenExchanges) : v.Lawful where
  room := h.room
  head _ := h.head
  waiting := h.waiting
  seq := by simp [BusView.SeqLaw, BusView.Carries, h.running, h.active, h.scanning, h.notReset, h.exchange, h.free]

/-- A job left the queue and the sequencer is Idle (R115). -/
theorem BusView.JobAtRest.lawful_ended {v : BusView} (h : v.JobAtRest) :
    BusView.Lawful { v with jobs := v.jobs.tail, active := false, exchange := none, seq := .idle } where
  room := by have := h.room; simp only [List.length_tail]; omega
  head := by simp
  waiting := h.waiting
  seq := by simp [BusView.SeqLaw, h.scanning, h.free]

/-- The fresh context of an exchange is in Header with no outcome (R20). -/
def Exchange.Begun (e : Exchange) : Prop := e.phase = .header ∧ e.outcome = none

theorem Exchange.fresh_begun (k st ch d p n) : (Exchange.fresh k st ch d p n).Begun := ⟨rfl, rfl⟩

theorem Exchange.Begun.carried {e : Exchange} (h : e.Begun) :
    e.phase.fits .clearing = true ∧ e.outcomeFits = true := by
  simp [Exchange.outcomeFits, Phase.fits, h.1, h.2]

theorem BusView.BetweenExchanges.lawful_begun {v : BusView} (h : v.BetweenExchanges) {e : Exchange} (he : e.Begun) :
    BusView.Lawful { v with exchange := some e, activity := .clearing } where
  room := h.room
  head _ := h.head
  waiting := h.waiting
  seq := by rw [BusView.SeqLaw, h.running]; exact ⟨h.active, h.scanning, h.notReset, he.carried⟩

theorem BusView.BetweenExchanges.lawful_holding {v : BusView} (h : v.BetweenExchanges) :
    BusView.Lawful { v with seq := .holding } where
  room := h.room
  head _ := h.head
  waiting := h.waiting
  seq := by rw [BusView.SeqLaw]; exact ⟨h.active, h.scanning, h.notReset, h.exchange, h.free⟩

section Jobs
variable {s : State}

theorem State.endJobSince_lawful (h : s.busView.JobAtRest) (n r c) : (s.endJobSince n r c).busView.Lawful := by
  rw [s.busView_endJobSince n r c h.active h.head]; exact h.lawful_ended

theorem State.endJob_lawful (h : s.busView.JobAtRest) (r c) : (s.endJob r c).busView.Lawful :=
  s.endJobSince_lawful h _ r c

theorem State.beginExchange_lawful (h : s.busView.BetweenExchanges) {e : Exchange} (he : e.Begun) :
    (s.beginExchange e).busView.Lawful := by
  rw [s.busView_beginExchange e h.free]; exact h.lawful_begun he

/-- A PUT ends at its data claim, or its exchange begins (R102). -/
theorem State.startPut_cases (s : State) (j : Job) (x : JobContext) :
    (∃ r, s.startPut j x = s.endJob r .keep) ∨ ∃ e, e.Begun ∧ s.startPut j x = s.beginExchange e := by
  unfold State.startPut; simp only; split
  · exact .inl ⟨_, rfl⟩
  · split
    · exact .inl ⟨_, rfl⟩
    · exact .inr ⟨_, Exchange.fresh_begun .., rfl⟩

/-- A TAKE ends at its data claim, or its exchange begins (R104). -/
theorem State.startTake_cases (s : State) (j : Job) (x : JobContext) (later : Bool) :
    (∃ r, s.startTake j x later = s.endJob r .keep) ∨ ∃ e, e.Begun ∧ s.startTake j x later = s.beginExchange e := by
  unfold State.startTake; simp only; split
  · exact .inl ⟨_, rfl⟩
  · exact .inr ⟨_, Exchange.fresh_begun .., rfl⟩

/-- What the start of an exchange of a job can do: the job ends at its claim, its exchange begins, or nothing happens. -/
theorem State.startExchange_cases (s : State) (later : Bool) :
    (∃ r, s.startExchange later = s.endJob r .keep) ∨
      (∃ e, e.Begun ∧ s.startExchange later = s.beginExchange e) ∨ s.startExchange later = s := by
  unfold State.startExchange
  split
  · exact .inr (.inr rfl)
  · next j x _ =>
    cases j.kind
    case put => exact (s.startPut_cases j x).imp_right .inl
    case take => exact (s.startTake_cases j x later).imp_right .inl
    case busReset => exact .inr (.inr rfl)
    all_goals exact .inr (.inl ⟨_, Exchange.fresh_begun .., rfl⟩)

theorem State.startExchange_lawful (h : s.busView.BetweenExchanges) (later : Bool) :
    (s.startExchange later).busView.Lawful := by
  rcases s.startExchange_cases later with ⟨r, heq⟩ | ⟨e, he, heq⟩ | heq <;> rw [heq]
  · exact s.endJob_lawful h.toJobAtRest r .keep
  · exact s.beginExchange_lawful h he
  · exact h.lawful

/-- What a BUSY outcome can do (R95): the job ends at its limit, the repeat begins at once, or the job is Holding. -/
theorem State.busyOutcome_lawful (h : s.busView.BetweenExchanges) (j : Job) (x : JobContext) :
    (s.busyOutcome j x).busView.Lawful := by
  have hview (y : JobContext) : (s.setActive (some y)).busView = s.busView := by
    simp only [State.busView_setActive, Option.isSome_some, ← h.active]
  have h' (y : JobContext) : (s.setActive (some y)).busView.BetweenExchanges := hview y ▸ h
  unfold State.busyOutcome; simp only; split
  · exact State.endJob_lawful (h' _).toJobAtRest _ _
  · split
    · exact State.startExchange_lawful (h' _) false
    · rw [State.busView_setSeq, hview]; exact h.lawful_holding

theorem State.dataComplete_lawful (h : s.busView.BetweenExchanges) (j : Job) (x : JobContext) :
    (s.dataComplete j x).busView.Lawful := by
  unfold State.dataComplete; split
  · exact State.endJob_lawful h.toJobAtRest _ _
  · exact h.lawful

theorem State.endCensusVisit_lawful (h : s.busView.BetweenExchanges) (e : Exchange) (o : ExchangeOutcome)
    (x : JobContext) : (s.endCensusVisit e o x).busView.Lawful := by
  have h' : (s.recordVisit e o).busView.BetweenExchanges := by simpa only [State.busView_recordVisit] using h
  unfold State.endCensusVisit; simp only; split
  · exact State.endJob_lawful h'.toJobAtRest _ _
  · simpa only [State.busView_mapActive] using h'.lawful

/-- An exchange's outcome reaches the Running job (R94). -/
theorem State.jobOutcome_lawful (h : s.busView.BetweenExchanges) (e : Exchange) (o : ExchangeOutcome) :
    (s.jobOutcome e o).busView.Lawful := by
  obtain ⟨j, x, rest, -, -, hact⟩ := s.activeJob_of_active h.active h.head
  have h' (y : JobContext) : (s.setActive (some y)).busView.BetweenExchanges := by
    simpa only [State.busView_setActive, Option.isSome_some, ← h.active] using h
  simp only [State.jobOutcome, hact]
  split
  · exact State.endCensusVisit_lawful (h' _) e o _
  · split
    · exact State.busyOutcome_lawful (h' _) j _
    · refine State.endJob_lawful (s := State.setActive _ _) ?_ _ _
      simpa only [State.busView_setActive, Option.isSome_some] using (h' (x.absorb e)).toJobAtRest
    · split
      · exact State.dataComplete_lawful (h' _) j _
      · exact State.endJob_lawful (h' _).toJobAtRest _ _
    · exact State.endJob_lawful (h' _).toJobAtRest _ _

/-- The outcome of a CUT ends a job that is no CENSUS, whatever the sequencer's state (R94, R101, R103). -/
theorem State.jobOutcome_of_cut_lawful (h : s.busView.JobAtRest) (e : Exchange) (o : ExchangeOutcome)
    (ho : o.failure = true ∨ o = .cutByRequest) (hk : ∀ j x, s.activeJob = some (j, x) → j.kind ≠ .census) :
    (s.jobOutcome e o).busView.Lawful := by
  obtain ⟨j, x, rest, -, -, hact⟩ := s.activeJob_of_active h.active h.head
  have h' : (s.setActive (some (x.absorb e))).busView.JobAtRest := by
    simpa only [State.busView_setActive, Option.isSome_some, ← h.active] using h
  simp only [State.jobOutcome, hact, hk j x hact, if_false]
  cases o <;> simp [ExchangeOutcome.failure] at ho <;> exact State.endJob_lawful h' _ _

end Jobs

/-! ### The laws across a scan and the arbiter's decision -/

/-- An Idle sequencer has no context, and the bus is Free (R89). -/
structure BusView.AtIdle (v : BusView) : Prop where
  room : v.jobs.length ≤ Config.jobLimit
  waiting : v.waiting = none
  idle : v.seq = .idle
  active : v.active = false
  scanning : v.scanning = false
  exchange : v.exchange = none
  free : v.activity = .free

theorem BusView.AtIdle.lawful {v : BusView} (h : v.AtIdle) : v.Lawful where
  room := h.room
  head := by simp [h.active]
  waiting := h.waiting
  seq := by simp [BusView.SeqLaw, h.idle, h.active, h.scanning, h.exchange, h.free]

theorem BusView.Lawful.atIdle {v : BusView} (h : v.Lawful) (hq : v.seq = .idle) : v.AtIdle := by
  have sq := h.seq
  rw [BusView.SeqLaw, hq] at sq
  obtain ⟨active, scanning, exchange, free⟩ := sq
  exact ⟨h.room, h.waiting, hq, active, scanning, exchange, free⟩

/-- A scan between its visits (R125). -/
structure BusView.BetweenVisits (v : BusView) : Prop where
  room : v.jobs.length ≤ Config.jobLimit
  waiting : v.waiting = none
  state : v.seq = .scanning
  active : v.active = false
  scanning : v.scanning = true
  exchange : v.exchange = none
  free : v.activity = .free

theorem BusView.BetweenVisits.lawful {v : BusView} (h : v.BetweenVisits) : v.Lawful where
  room := h.room
  head := by simp [h.active]
  waiting := h.waiting
  seq := by simp [BusView.SeqLaw, BusView.Carries, h.state, h.active, h.scanning, h.exchange, h.free]

theorem BusView.BetweenVisits.lawful_begun {v : BusView} (h : v.BetweenVisits) {e : Exchange} (he : e.Begun) :
    BusView.Lawful { v with exchange := some e, activity := .clearing, scanning := true } where
  room := h.room
  head := by simp [h.active]
  waiting := h.waiting
  seq := by rw [BusView.SeqLaw, h.state]; exact ⟨h.active, rfl, he.carried⟩

theorem BusView.BetweenVisits.lawful_left {v : BusView} (h : v.BetweenVisits) :
    BusView.Lawful { v with seq := .idle, scanning := false } where
  room := h.room
  head := by simp [h.active]
  waiting := h.waiting
  seq := ⟨h.active, rfl, h.exchange, h.free⟩

section Decisions
variable {s : State}

theorem State.beginVisit_lawful (h : s.busView.BetweenVisits) (x : Scan) (i : StationIndex) :
    (s.beginVisit x i).busView.Lawful := by
  rw [s.busView_beginVisit x i h.free]; exact h.lawful_begun (Exchange.fresh_begun ..)

theorem State.startScan_lawful (h : s.busView.AtIdle) : s.startScan.busView.Lawful := by
  unfold State.startScan; simp only
  have h' (t : State) (ht : t.busView = { s.busView with seq := .scanning, scanning := true }) :
      t.busView.BetweenVisits := by
    rw [ht]; exact ⟨h.room, h.waiting, rfl, h.active, rfl, h.exchange, h.free⟩
  split
  · exact State.beginVisit_lawful (h' _ rfl) _ _
  · rw [State.busView_endScanUnclaimed]; exact (h' _ rfl).lawful_left

/-- A visit ends with an outcome: the scan ends, or goes on at its next step (R125). -/
theorem State.endVisit_lawful (h : s.busView.BetweenVisits) (o : ExchangeOutcome) : (s.endVisit o).busView.Lawful := by
  obtain ⟨x, hx⟩ := Option.isSome_iff_exists.mp h.scanning
  have hview (a : Attention) (ha : a.scan.isSome = true) : (s.setAttention a).busView = s.busView :=
    s.busView_setAttention a (by simp [ha, hx])
  simp only [State.endVisit, hx]
  split
  · rw [State.busView_endScanClaimed, hview _ rfl]; exact h.lawful_left
  · split
    · rw [hview _ rfl]; exact h.lawful
    · rw [State.busView_endScanUnclaimed, hview _ rfl]; exact h.lawful_left

theorem State.nextVisit_lawful (h : s.busView.BetweenVisits) : s.nextVisit.busView.Lawful := by
  unfold State.nextVisit
  split
  · exact h.lawful
  · split
    · exact State.beginVisit_lawful h _ _
    · rw [State.busView_endScanUnclaimed]; exact h.lawful_left

/-- The view of a job that has started and whose kind's start is to come (R93). -/
theorem BusView.AtIdle.started {v : BusView} (h : v.AtIdle) (hj : v.jobs ≠ []) (hk : v.headIsBusReset = false) :
    BusView.BetweenExchanges { v with active := true, seq := .running } where
  room := h.room
  head := hj
  active := rfl
  waiting := h.waiting
  scanning := h.scanning
  exchange := h.exchange
  free := h.free
  running := rfl
  notReset := hk

theorem BusView.AtIdle.lawful_pulsing {v : BusView} (h : v.AtIdle) (hj : v.jobs ≠ []) (hk : v.headIsBusReset = true) :
    BusView.Lawful { v with active := true, seq := .resetting, activity := .pulsing } where
  room := h.room
  head _ := hj
  waiting := h.waiting
  seq := ⟨rfl, h.scanning, hk, h.exchange, rfl⟩

theorem State.startOpen_lawful (h : s.busView.BetweenExchanges) (j : Job) : (s.startOpen j).busView.Lawful := by
  unfold State.startOpen
  split
  · exact State.endJob_lawful h.toJobAtRest _ _
  · next t ht =>
    have hview : t.busView = s.busView := by
      unfold State.openClaim at ht
      split at ht
      · cases ht
      · split at ht
        · cases ht
        · split at ht <;> cases ht
          rfl
    exact State.startExchange_lawful (hview ▸ h) false

theorem State.startShut_lawful (h : s.busView.BetweenExchanges) (j : Job) : (s.startShut j).busView.Lawful := by
  unfold State.startShut
  split
  · exact State.startExchange_lawful (by simpa only [State.busView_shutOpenLink] using h) false
  · exact State.endJob_lawful (by simpa only [State.busView_mapActive] using h.toJobAtRest) _ _
  · exact State.endJob_lawful h.toJobAtRest _ _

theorem State.startJob_lawful (h : s.busView.AtIdle) : s.startJob.busView.Lawful := by
  unfold State.startJob
  split
  · exact h.lawful
  · next j rest hjobs =>
    have hj : s.busView.jobs ≠ [] := by simp [hjobs]
    have hhead : s.busView.headIsBusReset = (j.kind == .busReset) := by simp [BusView.headIsBusReset, hjobs]
    have started (hk : j.kind ≠ .busReset) := h.started hj (by simpa [hhead] using hk)
    simp only
    cases hk : j.kind
    case busReset =>
      show (State.requestBus _ .pulse).busView.Lawful
      rw [State.busView_requestPulse _ (by exact h.free)]
      exact h.lawful_pulsing hj (by simp [hhead, hk])
    case openLink => exact State.startOpen_lawful (started (by simp [hk])) j
    case shut => exact State.startShut_lawful (started (by simp [hk])) j
    all_goals exact State.startExchange_lawful (started (by simp [hk])) false

theorem State.carryOut_lawful (h : s.busView.AtIdle) (w : Start) : (s.carryOut w).busView.Lawful := by
  cases w
  · exact State.startScan_lawful h
  · exact State.startJob_lawful h

theorem State.arbitrate_lawful (fuel : Nat) (h : s.busView.Lawful) : (State.arbitrate fuel s).busView.Lawful := by
  induction fuel generalizing s with
  | zero => exact h
  | succ fuel ih =>
    unfold State.arbitrate
    split
    next hidle =>
      split
      · exact h
      · split
        · exact h
        · exact ih (State.carryOut_lawful (s := s.setSeq { s.seq with stall := false }) (h.atIdle hidle) _)
    next => exact h

/-- The arbiter's decision keeps the laws (R90). -/
theorem State.decide_lawful (h : s.busView.Lawful) : s.decide.busView.Lawful := State.arbitrate_lawful _ h

theorem State.settle_lawful (s : State) {t : State} (h : t.busView.Lawful) : (State.settle s t).busView.Lawful := by
  unfold State.settle
  split
  · exact h
  · exact State.decide_lawful h

end Decisions

/-! ### The laws across the steps of an exchange -/

/-- What the sequencer's state can be while an exchange runs that is not in Cut. -/
theorem BusView.SeqLaw.carrying {v : BusView} (sq : v.SeqLaw) {e : Exchange} (he : v.exchange = some e)
    (hp : e.phase ≠ .cut) : (v.seq = .running ∨ v.seq = .scanning) ∧ v.Carries := by
  unfold BusView.SeqLaw at sq
  cases hq : v.seq <;> simp only [hq, he] at sq
  case running => exact ⟨.inl rfl, sq.2.2.2⟩
  case scanning => exact ⟨.inr rfl, sq.2.2⟩
  case cutting =>
    obtain ⟨-, f, hf, hcut, -⟩ := sq
    exact absurd (Option.some.inj hf ▸ hcut) hp
  all_goals simp at sq

/-- The bus unit of an exchange is neither Free nor in a pulse, and the exchange's phase goes with its activity. -/
theorem BusView.SeqLaw.fits {v : BusView} (sq : v.SeqLaw) {e : Exchange} (he : v.exchange = some e) :
    e.phase.fits v.activity = true ∧ e.outcomeFits = true := by
  by_cases hp : e.phase = .cut
  · unfold BusView.SeqLaw BusView.Carries at sq
    cases hq : v.seq <;> simp_all
    obtain ⟨-, ho, ha⟩ := sq
    simp_all [Phase.fits]
  · simpa [BusView.Carries, he] using (sq.carrying he hp).2

/-- While there is no exchange, the bus unit is Free or in a pulse (R2). -/
theorem BusView.SeqLaw.free_or_pulsing {v : BusView} (sq : v.SeqLaw) (he : v.exchange = none) :
    v.activity = .free ∨ v.activity = .pulsing := by
  unfold BusView.SeqLaw BusView.Carries at sq
  cases hq : v.seq <;> simp_all

/-- An exchange's context and activity change together, from a phase other than Cut to one that fits (section 2.1). -/
theorem BusView.Lawful.carry {v : BusView} (h : v.Lawful) {e : Exchange} (he : v.exchange = some e)
    (hp : e.phase ≠ .cut) {f : Exchange} {a : Activity} (hf : f.phase.fits a = true) (ho : f.outcomeFits = true) :
    BusView.Lawful { v with exchange := some f, activity := a } where
  room := h.room
  head := h.head
  waiting := h.waiting
  seq := by
    have sq := h.seq
    rcases (h.seq.carrying he hp).1 with hq | hq <;> rw [BusView.SeqLaw, hq] at sq ⊢
    · obtain ⟨active, scanning, head, -⟩ := sq
      exact ⟨active, scanning, head, hf, ho⟩
    · obtain ⟨active, scanning, -⟩ := sq
      exact ⟨active, scanning, hf, ho⟩

/-- The exchange of a Running job is gone and the bus is Free. -/
theorem BusView.Lawful.betweenExchanges {v : BusView} (h : v.Lawful) (hq : v.seq = .running) :
    BusView.BetweenExchanges { v with exchange := none, activity := .free, waiting := none } := by
  have sq := h.seq
  rw [BusView.SeqLaw, hq] at sq
  obtain ⟨active, scanning, head, -⟩ := sq
  exact ⟨⟨h.room, h.head active, active, rfl, scanning, rfl, rfl⟩, hq, head⟩

/-- The exchange of a visit is gone and the bus is Free. -/
theorem BusView.Lawful.betweenVisits {v : BusView} (h : v.Lawful) (hq : v.seq = .scanning) :
    BusView.BetweenVisits { v with exchange := none, activity := .free, waiting := none } := by
  have sq := h.seq
  rw [BusView.SeqLaw, hq] at sq
  obtain ⟨active, scanning, -⟩ := sq
  exact ⟨h.room, rfl, hq, active, scanning, rfl, rfl⟩

theorem BusView.Lawful.carries_none {v : BusView} (h : v.Lawful) (he : v.exchange = none)
    (hq : v.seq = .running ∨ v.seq = .scanning) : v.activity = .free := by
  have sq := h.seq
  rcases hq with hq | hq <;> simp_all [BusView.SeqLaw, BusView.Carries]

/-- The exchange is in Cut, with an outcome that calls for one; the sequencer runs, scans, or ends the job (R39, R94). -/
theorem BusView.Lawful.cut {v : BusView} (h : v.Lawful) {e f : Exchange} (he : v.exchange = some e)
    (hf : f.phase = .cut) (ho : f.outcomeFits = true) :
    BusView.Lawful { v with exchange := some f, activity := .cutting, waiting := none } where
  room := h.room
  head := h.head
  waiting := rfl
  seq := by
    have sq := h.seq
    have hfit : f.phase.fits .cutting = true := by simp [hf, Phase.fits]
    unfold BusView.SeqLaw at sq ⊢
    cases hq : v.seq <;> simp only [hq, he] at sq ⊢
    case running =>
      obtain ⟨active, scanning, head, -⟩ := sq
      exact ⟨active, scanning, head, hfit, ho⟩
    case scanning =>
      obtain ⟨active, scanning, -⟩ := sq
      exact ⟨active, scanning, hfit, ho⟩
    case cutting => exact ⟨sq.1, f, rfl, hf, ho, trivial⟩
    all_goals simp at sq

/-- In Cut, a Running sequencer may be Cutting as well (R39, R111). -/
theorem BusView.Lawful.cutting {v : BusView} (h : v.Lawful) {e : Exchange} (he : v.exchange = some e)
    (hp : e.phase = .cut) (hs : v.scanning = false) : BusView.Lawful { v with seq := .cutting } where
  room := h.room
  head := h.head
  waiting := h.waiting
  seq := by
    obtain ⟨hfit, ho⟩ := h.seq.fits he
    exact ⟨hs, e, he, hp, ho, by simpa [hp, Phase.fits] using hfit⟩

theorem BusView.Lawful.not_scanning {v : BusView} (h : v.Lawful) (hq : v.seq = .running) : v.scanning = false :=
  (h.betweenExchanges hq).scanning

section Exchanges
variable {s : State}

/-- The end of an exchange with no CUT (section 2.6). -/
theorem State.endExchange_lawful (h : s.busView.Lawful) {e0 : Exchange} (he : s.exchange = some e0)
    (hp : e0.phase ≠ .cut) (e : Exchange) (o : ExchangeOutcome) : (s.endExchange e o).busView.Lawful := by
  have hview : ((s.setExchange none).busToFree).busView =
      { s.busView with exchange := none, activity := .free, waiting := none } :=
    (s.setExchange none).busView_busToFree h.waiting
  unfold State.endExchange; simp only
  rcases (h.seq.carrying he hp).1 with hq | hq
  · have hq' : ((s.setExchange none).busToFree).seq.state = .running := hq
    simp only [hq']
    exact State.jobOutcome_lawful (hview ▸ h.betweenExchanges hq) e o
  · have hq' : ((s.setExchange none).busToFree).seq.state = .scanning := hq
    simp only [hq']
    exact State.endVisit_lawful (hview ▸ h.betweenVisits hq) o

theorem State.cutForJob_lawful (h : s.busView.Lawful) {e : Exchange} (he : s.exchange = some e) (hp : e.phase = .cut) :
    s.cutForJob.busView.Lawful := by
  unfold State.cutForJob
  split
  next hq => exact h.cutting he hp (h.not_scanning hq.1)
  next => exact h

/-- The view once the exchange has its cut context and a CUT has started (R16, R40). -/
theorem State.busView_setExchange_startCut (h : s.busView.Lawful) {e : Exchange} (he : s.exchange = some e)
    (f : Exchange) : ((s.setExchange (some f)).startCut).busView =
      { s.busView with exchange := some f, activity := .cutting, waiting := none } :=
  (s.setExchange (some f)).busView_startCut (Phase.fits_busy (h.seq.fits he).1).2

/-- A failure of the exchange in progress (R39). -/
theorem State.failExchange_lawful (h : s.busView.Lawful) {e0 : Exchange} (he : s.exchange = some e0) (e : Exchange)
    {o : ExchangeOutcome} (ho : o.failure = true) : (s.failExchange e o).busView.Lawful := by
  have hview : ((s.failureReports e o).putBackByte e).busView = s.busView := by simp
  have h' : ((s.failureReports e o).putBackByte e).busView.Lawful := hview ▸ h
  have he' : ((s.failureReports e o).putBackByte e).exchange = some e0 := (congrArg BusView.exchange hview).trans he
  have hcut := State.busView_setExchange_startCut h' he' (e.failed o)
  refine State.cutForJob_lawful ?_ rfl (e := e.failed o) rfl
  rw [hcut]
  exact h'.cut he' rfl (by simp [Exchange.outcomeFits, Exchange.failed, ho])

theorem Exchange.cut_outcomeFits {e : Exchange} (h : e.outcomeFits = true) : e.cut.outcomeFits = true := by
  unfold Exchange.outcomeFits at h
  cases ho : e.outcome <;> simp_all [Exchange.outcomeFits, Exchange.cut]

/-- The sequencer cuts its exchange by request (R40). -/
theorem State.cutExchange_lawful (h : s.busView.Lawful) {e : Exchange} (he : s.exchange = some e) :
    (s.cutExchange e).busView.Lawful := by
  have hview : (s.putBackByte e).busView = s.busView := by simp
  have he' : (s.putBackByte e).exchange = some e := (congrArg BusView.exchange hview).trans he
  have h' : (s.putBackByte e).busView.Lawful := hview ▸ h
  unfold State.cutExchange
  rw [State.busView_setExchange_startCut h' he']
  exact h'.cut he' rfl (Exchange.cut_outcomeFits (h.seq.fits he).2)

/-- A CUT's outcome calls for a CUT (R39, R40). -/
theorem Exchange.outcomeFits_getD {e : Exchange} (h : e.outcomeFits = true) (hp : e.phase = .cut) :
    (e.outcome.getD .cutByRequest).failure = true ∨ e.outcome.getD .cutByRequest = .cutByRequest := by
  unfold Exchange.outcomeFits at h
  cases ho : e.outcome <;> simp_all

/-- The completion of a CUT (R39, R116). -/
theorem State.endCut_lawful (h : s.busView.Lawful) {e : Exchange} (he : s.exchange = some e) (hp : e.phase = .cut) :
    (s.endCut e).busView.Lawful := by
  have hview : ((s.setExchange none).busToFree).busView =
      { s.busView with exchange := none, activity := .free, waiting := none } :=
    (s.setExchange none).busView_busToFree h.waiting
  have hout := Exchange.outcomeFits_getD (h.seq.fits he).2 hp
  unfold State.endCut; simp only
  generalize (s.setExchange none).busToFree = t at hview ⊢
  have hseq : t.seq.state = s.seq.state := congrArg BusView.seq hview
  rw [hseq]
  have sq := h.seq
  cases hq : s.seq.state <;> simp only
  case scanning => exact State.endVisit_lawful (hview ▸ h.betweenVisits hq) _
  case running => exact State.jobOutcome_lawful (hview ▸ h.betweenExchanges hq) e _
  case cutting =>
    rw [BusView.SeqLaw, State.busView_seq, hq] at sq
    cases ha : t.busView.active
    case false =>
      have hact : t.activeJob = none := by
        have : t.active = none := by simpa using ha
        simp [State.activeJob, this]
      simp only [hact, State.busView_setSeqState, hview]
      have hs : s.busView.active = false := by rw [hview] at ha; exact ha
      exact BusView.AtIdle.lawful ⟨h.room, rfl, rfl, hs, sq.1, rfl, rfl⟩
    case true =>
      have hs : s.busView.active = true := by rw [hview] at ha; exact ha
      have hrest : t.busView.JobAtRest := hview ▸ ⟨h.room, h.head hs, hs, rfl, sq.1, rfl, rfl⟩
      obtain ⟨j, x, rest, -, -, hact⟩ := t.activeJob_of_active hrest.active hrest.head
      simp only [hact]
      split
      · exact State.endJob_lawful (by simpa only [State.busView_recordVisit] using hrest) _ _
      · next hk =>
        refine State.jobOutcome_of_cut_lawful hrest e _ hout fun j' x' h' => ?_
        obtain ⟨rfl, rfl⟩ : j = j' ∧ x = x' := by simpa [hact] using h'
        exact hk
  case idle => exact absurd (he.symm.trans (h.atIdle hq).exchange) (by simp)
  all_goals
    rw [BusView.SeqLaw, State.busView_seq, hq] at sq
    simp [he] at sq

end Exchanges

/-! ### The laws across the events of the wire -/

section Wire
variable {s : State}

/-- A report on the exchange in progress keeps the laws when what it does keeps them. -/
theorem State.onReport_lawful (h : s.busView.Lawful) {w : Bool} {f : Exchange → State}
    (hf : ∀ e, s.exchange = some e → w = true → (f e).busView.Lawful) : (s.onReport w f).busView.Lawful := by
  unfold State.onReport
  split
  next e he =>
    split
    next hw => exact State.settle_lawful s (hf e he hw)
    next => exact h
  next => exact h

/-- The phase that goes with an activity of an exchange. -/
theorem BusView.Lawful.phase {v : BusView} (h : v.Lawful) {e : Exchange} (he : v.exchange = some e) :
    (v.activity = .clearing ∨ v.activity = .header → e.phase = .header) ∧
      (v.activity = .turnaround → e.phase = .answer) ∧ (v.activity = .receiving → e.phase = .inbound) ∧
      (v.activity = .handback → e.phase = .handback) ∧ (v.activity = .sending → e.phase = .outbound) := by
  have := (h.seq.fits he).1
  cases hp : e.phase <;> cases ha : v.activity <;> simp [Phase.fits, hp, ha] at this ⊢

/-- An exchange on the wire that is not in Cut: the law, the context in the state, its phase, and no outcome yet. -/
structure State.OnWire (s : State) (e : Exchange) : Prop where
  law : s.busView.Lawful
  exchange : s.exchange = some e
  notCut : e.phase ≠ .cut

theorem State.OnWire.outcome {e : Exchange} (h : s.OnWire e) : e.outcome = none := by
  have := (h.law.seq.fits h.exchange).2
  unfold Exchange.outcomeFits at this
  cases ho : e.outcome <;> simp_all [h.notCut]

/-- Only a CUT, a pulse and Free have no exchange outside Cut. -/
theorem BusView.Lawful.onWire (h : s.busView.Lawful) {e : Exchange} (he : s.exchange = some e)
    (ha : s.bus.activity ≠ .cutting) : s.OnWire e := by
  refine ⟨h, he, fun hp => ha ?_⟩
  simpa [hp, Phase.fits] using (h.seq.fits he).1

theorem State.OnWire.of_view {t : State} {e : Exchange} (h : s.OnWire e) (ht : t.busView = s.busView) : t.OnWire e :=
  ⟨ht ▸ h.law, (congrArg BusView.exchange ht).trans h.exchange, h.notCut⟩

/-- The exchange goes on, with a new context that has no outcome, in an activity that goes with its phase. -/
theorem State.OnWire.lawful_carried {t : State} {e0 e : Exchange} {a : Activity} (h : s.OnWire e0)
    (ht : t.busView = { s.busView with exchange := some e, activity := a }) (hf : e.phase.fits a = true)
    (ho : e.outcome = none) (hp : e.phase ≠ .cut) : t.busView.Lawful := by
  rw [ht]
  exact h.law.carry h.exchange h.notCut hf (by simp [Exchange.outcomeFits, ho, hp])

theorem State.enterHandback_lawful {e0 e : Exchange} (h : s.OnWire e0) (ho : e.outcome = none) :
    (s.enterHandback e).busView.Lawful :=
  h.lawful_carried (e := { e with phase := .handback }) rfl rfl ho (by simp)

theorem State.enterInbound_lawful {e0 e : Exchange} (h : s.OnWire e0) (ho : e.outcome = none) :
    (s.enterInbound e).busView.Lawful :=
  h.lawful_carried (e := { e with phase := .inbound }) rfl rfl ho (by simp)

theorem State.sendTest_lawful {e0 e : Exchange} (h : s.OnWire e0) (ho : e.outcome = none) :
    (s.sendTest e).busView.Lawful :=
  h.lawful_carried (e := { e with phase := .outbound }) rfl rfl ho (by simp)

theorem State.sendPutByte_lawful {e0 e : Exchange} (h : s.OnWire e0) (ho : e.outcome = none) :
    (s.sendPutByte e).busView.Lawful := by
  unfold State.sendPutByte
  split
  · exact h.law
  · split
    · exact h.law
    · have h' := h.of_view (State.busView_mapJobLink s Link.putInFlight)
      exact h'.lawful_carried (e := { e with phase := .outbound }) rfl rfl ho (by simp)

theorem State.OnWire.endExchange_lawful {e0 : Exchange} (h : s.OnWire e0) (e : Exchange) (o : ExchangeOutcome) :
    (s.endExchange e o).busView.Lawful :=
  State.endExchange_lawful h.law h.exchange h.notCut e o

theorem State.takeHandback_lawful {e : Exchange} (h : s.OnWire e) : (s.takeHandback e).busView.Lawful := by
  unfold State.takeHandback
  split
  · exact h.law
  · split
    · exact h.endExchange_lawful e _
    · split
      · exact State.sendPutByte_lawful h h.outcome
      · split
        · exact h.endExchange_lawful e _
        · exact State.sendTest_lawful h h.outcome
      · exact h.endExchange_lawful e _

theorem State.takeAnswer_lawful {e : Exchange} (h : s.OnWire e) (a : Answer) : (s.takeAnswer e a).busView.Lawful := by
  have h' : (s.reportStation e.station (·.answerReport a)).OnWire e := h.of_view rfl
  unfold State.takeAnswer; simp only; split
  · exact State.failExchange_lawful h'.law h'.exchange _ rfl
  · split
    · exact State.enterHandback_lawful h' h.outcome
    · split
      · exact State.enterInbound_lawful h' h.outcome
      · exact State.enterInbound_lawful h' h.outcome
      · exact State.enterHandback_lawful h' h.outcome

theorem State.takeStatus_lawful {e : Exchange} (h : s.OnWire e) (v : Byte) : (s.takeStatus e v).busView.Lawful :=
  State.enterHandback_lawful (h.of_view (by simp)) h.outcome

theorem State.takeData_lawful {e : Exchange} (h : s.OnWire e) (v : Byte) (m : Bool) :
    (s.takeData e v m).busView.Lawful := by
  unfold State.takeData; simp only; split
  · exact State.enterHandback_lawful (h.of_view (by simp)) h.outcome
  · exact State.enterInbound_lawful (h.of_view (by simp)) h.outcome

theorem State.takeFrame_lawful {e : Exchange} (h : s.OnWire e) (v : Byte) (m : Bool) :
    (s.takeFrame e v m).busView.Lawful := by
  unfold State.takeFrame; split
  · exact State.takeStatus_lawful h v
  · rw [State.busView_nextMove]; exact State.takeData_lawful h v m
  · exact h.law

theorem State.putByteSent_lawful {e : Exchange} (h : s.OnWire e) (m : Bool) : (s.putByteSent e m).busView.Lawful := by
  unfold State.putByteSent; simp only; split
  · exact (h.of_view (by simp)).endExchange_lawful _ _
  · exact State.sendPutByte_lawful (h.of_view (by simp)) h.outcome

theorem State.testSent_lawful {e : Exchange} (h : s.OnWire e) : (s.testSent e).busView.Lawful := by
  unfold State.testSent; simp only; split
  · exact State.sendTest_lawful h h.outcome
  · split
    · exact (h.of_view (by simp)).endExchange_lawful _ _
    · exact h.endExchange_lawful _ _

theorem State.takeAck_lawful {e : Exchange} (h : s.OnWire e) : (s.takeAck e).busView.Lawful := by
  have hphase := (h.law.phase h.exchange).1
  unfold State.takeAck; split
  next ha =>
    have hp : e.phase = .header := hphase (.inr ha)
    split
    · refine h.lawful_carried (e := e) ?_ (a := .header) (by simp [hp, Phase.fits]) h.outcome h.notCut
      simp [← h.exchange]
    · exact h.lawful_carried (e := { e with phase := .answer }) rfl rfl h.outcome (by simp)
  next =>
    split
    · exact State.putByteSent_lawful h _
    · exact State.testSent_lawful h
    · exact h.law

theorem State.takeNak_lawful {e : Exchange} (h : s.OnWire e) : (s.takeNak e).busView.Lawful := by
  unfold State.takeNak; split
  · exact State.failExchange_lawful h.law h.exchange e rfl
  · exact h.law

theorem State.linesReleased_lawful (h : s.busView.Lawful) : s.linesReleased.busView.Lawful := by
  refine State.onReport_lawful h fun e he ha => ?_
  have ha : s.bus.activity = .clearing := by simpa using ha
  have hw := BusView.Lawful.onWire h he (by simp [ha])
  have hp : e.phase = .header := (h.phase he).1 (.inl ha)
  refine hw.lawful_carried (e := e) ?_ (a := .header) (by simp [hp, Phase.fits]) hw.outcome hw.notCut
  simp [← he]

/-- A report that some activity gives, none of them a CUT's, keeps the laws when its effect on an exchange that is not in
Cut does. -/
theorem State.onReport_lawful_onWire (h : s.busView.Lawful) {w : Bool} {f : Exchange → State}
    (hw : w = true → s.bus.activity ≠ .cutting) (hf : ∀ e, s.OnWire e → (f e).busView.Lawful) :
    (s.onReport w f).busView.Lawful :=
  State.onReport_lawful h fun e he hwt => hf e (h.onWire he (hw hwt))

theorem State.cutCompletion_lawful (h : s.busView.Lawful) : s.cutCompletion.busView.Lawful := by
  unfold State.cutCompletion
  split
  next ha =>
    split
    next e he =>
      have hp : e.phase = .cut := by
        have := (h.seq.fits he).1
        cases hp : e.phase <;> simp_all [Phase.fits]
      exact State.settle_lawful s (State.endCut_lawful h he hp)
    next he =>
      have sq := h.seq
      unfold BusView.SeqLaw BusView.Carries at sq
      cases hq : s.seq.state <;> simp_all
  next => exact h

theorem State.pulseCompletion_lawful (h : s.busView.Lawful) : s.pulseCompletion.busView.Lawful := by
  unfold State.pulseCompletion
  split
  next ha =>
    have sq := h.seq
    have hq : s.seq.state = .resetting := ((s.busView_lawful_iff.mp h).2.2.2.2).mp ha
    rw [BusView.SeqLaw, State.busView_seq, hq] at sq
    obtain ⟨active, scanning, -, exchange, -⟩ := sq
    refine State.settle_lawful s (State.endJobSince_lawful ?_ _ _ _)
    rw [State.busView_resetByPulse, State.busView_busToFree s h.waiting]
    exact ⟨h.room, h.head active, active, rfl, scanning, exchange, rfl⟩
  next => exact h

theorem State.busyDelayEnd_lawful (h : s.busView.Lawful) : s.busyDelayEnd.busView.Lawful := by
  unfold State.busyDelayEnd
  split
  next hq =>
    have sq := h.seq
    rw [BusView.SeqLaw, State.busView_seq, hq] at sq
    obtain ⟨active, scanning, head, exchange, free⟩ := sq
    refine State.settle_lawful s (State.startExchange_lawful ?_ _)
    exact ⟨⟨h.room, h.head active, active, h.waiting, scanning, exchange, free⟩, rfl, head⟩
  next => exact h

theorem State.nextStep_lawful (h : s.busView.Lawful) : s.nextStep.busView.Lawful := by
  unfold State.nextStep
  have whole (he : s.exchange = none) (hq : s.seq.state = .running ∨ s.seq.state = .scanning) :
      s.busView = { s.busView with exchange := none, activity := .free, waiting := none } := by
    have hw : s.bus.waiting = none := h.waiting
    have hf : s.bus.activity = .free := h.carries_none he hq
    simp [State.busView, he, hw, hf]
  split
  next hq he =>
    split
    · exact State.settle_lawful s (State.startExchange_lawful (whole he (.inl hq) ▸ h.betweenExchanges hq) _)
    · exact h
  next hq he => exact State.settle_lawful s (State.nextVisit_lawful (whole he (.inr hq) ▸ h.betweenVisits hq))
  next => exact h

end Wire

/-! ### The laws across the window and the commands -/

section Commands
variable {s : State}

theorem State.busView_writeMoverReg {t : State} {c : Chan} {r : MoverReg} {v : Byte}
    (h : s.writeMoverReg c r v = .stored t) : t.busView = s.busView := by
  unfold State.writeMoverReg at h
  cases r <;> grind [State.busView_setChan]

/-- What a stored DATA write does to the view: nothing, unless it is one of CFG. -/
theorem State.busView_writeReg {t : State} {r : Reg} {v : Byte} (h : s.writeReg r v = .stored t) :
    t.busView = s.busView ∨ t = s.writeCfg v := by
  cases r
  case cfg => exact .inr (by simpa [State.writeReg] using h.symm)
  case mover c m => exact .inl (State.busView_writeMoverReg h)
  case sSel | lSel | pLink =>
    simp only [State.writeReg] at h
    split at h <;> cases h
    exact .inl rfl
  all_goals cases h <;> exact .inl rfl

theorem State.writeCfg_lawful (h : s.busView.Lawful) (v : Byte) : (s.writeCfg v).busView.Lawful := by
  unfold State.writeCfg; simp only
  refine State.decide_lawful ?_
  split
  · rw [State.busView_judgeLatch]; exact h
  · exact h

theorem State.dataWrite_lawful (h : s.busView.Lawful) (v : Byte) : (s.dataWrite v).busView.Lawful := by
  unfold State.dataWrite; simp only [State.busView_autoStep]
  split
  · exact h
  · split
    next t ht =>
      rw [State.busView_taken]
      rcases State.busView_writeReg ht with heq | rfl
      · exact heq ▸ h
      · exact State.writeCfg_lawful h v
    · exact h
    · exact h

/-- The law of the queue allows any records behind the Active job (R86). -/
theorem BusView.Lawful.withJobs {v : BusView} (h : v.Lawful) {js : List Job} (room : js.length ≤ Config.jobLimit)
    (hhead : v.active = true → js.head? = v.jobs.head?) : BusView.Lawful { v with jobs := js } where
  room := room
  head ha hjs := by
    have := hhead ha
    exact h.head ha (List.head?_eq_none_iff.mp (by rw [← this, show js = [] from hjs]; rfl))
  waiting := h.waiting
  seq := by
    have sq := h.seq
    unfold BusView.SeqLaw at sq ⊢
    cases hq : v.seq <;> simp_all [BusView.Carries, BusView.headIsBusReset]

theorem State.postJob_lawful (h : s.busView.Lawful) : s.postJob.busView.Lawful := by
  unfold State.postJob
  split
  · exact h
  · split
    · exact h
    next hroom =>
      refine State.decide_lawful (h.withJobs (js := s.jobs ++ [_]) ?_ fun ha => ?_)
      · simp only [Config.jobLimit, List.length_append, List.length_singleton] at hroom ⊢; omega
      · exact List.head?_append_of_ne_nil _ (h.head ha)

theorem State.purgeJobs_lawful (h : s.busView.Lawful) : s.purgeJobs.busView.Lawful := by
  have hk : BusView.Lawful { s.busView with jobs := s.keptJobs } := by
    refine h.withJobs ?_ fun ha => ?_
    · unfold State.keptJobs; split <;> simp [Config.jobLimit]
    · have ha : s.active.isSome = true := ha
      simp [State.keptJobs, ha, List.head?_take]
  unfold State.purgeJobs
  refine State.decide_lawful ?_
  simpa only [State.busView_taken, State.busView_setWindow, State.busView_setJobs, State.busView_setQroomOnFall] using hk

theorem State.popEvent_lawful (h : s.busView.Lawful) : s.popEvent.busView.Lawful := by
  unfold State.popEvent
  split
  · exact h
  · exact State.decide_lawful h

theorem State.askRearm_lawful (h : s.busView.Lawful) : s.askRearm.busView.Lawful := by
  unfold State.askRearm
  split
  · exact h
  · refine State.decide_lawful ?_
    rw [State.busView_taken, State.busView_judgeLatch]
    exact h

/-- An ABORT with no exchange to cut ends the job at once (R113). -/
theorem State.abortNow_lawful (h : s.busView.JobAtRest) : s.abortNow.busView.Lawful := by
  obtain ⟨j, x, rest, -, -, hact⟩ := s.activeJob_of_active h.active h.head
  simp only [State.abortNow, hact]
  exact State.endJob_lawful h _ _

theorem State.abortJob_lawful (h : s.busView.Lawful) : s.abortJob.busView.Lawful := by
  have sq := h.seq
  unfold State.abortJob
  cases hq : s.seq.state <;> simp only
  case holding =>
    rw [BusView.SeqLaw, State.busView_seq, hq] at sq
    obtain ⟨active, scanning, -, exchange, free⟩ := sq
    exact State.decide_lawful
      (State.abortNow_lawful (s := s.taken) ⟨h.room, h.head active, active, h.waiting, scanning, exchange, free⟩)
  case running =>
    rw [BusView.SeqLaw, State.busView_seq, hq] at sq
    obtain ⟨active, scanning, -⟩ := sq
    cases he : s.exchange with
    | some e =>
      have hc : (s.taken.cutExchange e).busView.Lawful := State.cutExchange_lawful (s := s.taken) h he
      refine hc.cutting (e := e.cut) rfl rfl ?_
      simpa [State.cutExchange, State.startCut] using scanning
    | none =>
      have free := h.carries_none he (.inl hq)
      exact State.decide_lawful
        (State.abortNow_lawful (s := s.taken) ⟨h.room, h.head active, active, h.waiting, scanning, he, free⟩)
  all_goals exact h

/-! ### Resets -/

/-- The ASK latch after it is cleared and R119 is applied at once, with no scan (R120, R121, R130). -/
theorem State.clearAttention_of_no_scan (h : s.attention.scan = none) :
    s.clearAttention = { s with
      attention := { s.attention with latch := s.pins.askLine && s.settings.scan, mask := false } } := by
  unfold State.clearAttention State.judgeLatch
  cases ha : s.pins.askLine <;> cases hs : s.settings.scan <;> simp [State.setAttention, h, ha, hs]

/-- An abandoned move changes nothing but the last host write (R168). -/
theorem State.abandonMove_eq (s : State) : s.abandonMove = { s with pins := s.abandonMove.pins } := by
  unfold State.abandonMove; split <;> rfl

/-- What SOFT-RESET does to every block but the bus unit and the sequencer's state (R53, R69, R116, R130, R141, R154,
R168). -/
theorem State.softResetBlocks_eq (s : State) :
    s.softResetBlocks = { s with
      jobs := []
      active := none
      stations := mapTable Station.softReset s.stations
      links := mapTable (fun l => if l.bound then l.closed else { l with holder := none }) s.links
      freePages := allPages
      events := { held := [], reserved := [], qroom := false }
      port := { s.port with last := false, underrun := false, overrun := false, denied := false }
      mover := s.mover.softReset
      seq := { s.seq with jobTurn := false, stall := false }
      attention := { s.attention with latch := s.pins.askLine && s.settings.scan, mask := false, scan := none }
      pins := s.abandonMove.pins } := by
  have hask : s.abandonMove.pins.askLine = s.pins.askLine := by unfold State.abandonMove; split <;> rfl
  unfold State.softResetBlocks
  rw [s.abandonMove_eq]
  simp only
  rw [State.clearAttention_of_no_scan rfl]
  simp [State.closeAllLinks, hask, State.setMover, State.setLinks, State.setFreePages, State.setEvents, State.setPort,
    State.setJobs, State.setActive, State.setStations, State.setSeq, State.setAttention]

theorem State.softResetBus_of_free (h : s.bus.activity = .free) : s.softResetBus = s := by
  simp [State.softResetBus, h]

theorem State.softResetBus_of_pulsing (h : s.bus.activity = .pulsing) : s.softResetBus = s.busToFree.resetByPulse := by
  simp [State.softResetBus, h]

theorem State.softResetBus_of_busy (h : s.bus.activity ≠ .free ∧ s.bus.activity ≠ .pulsing) :
    s.softResetBus = s.startCut := by
  unfold State.softResetBus
  split <;> simp_all

/-- The sequencer is Cutting after a SOFT-RESET exactly when an exchange was in progress (R116). -/
theorem State.softResetSeq_of_seqLaw (sq : s.busView.SeqLaw) :
    s.softResetSeq = if s.exchange.isSome then .cutting else .idle := by
  unfold BusView.SeqLaw at sq
  unfold State.softResetSeq
  cases hq : s.seq.state <;> simp only [State.busView_seq, hq] at sq ⊢
  case cutting =>
    obtain ⟨-, e, he, -⟩ := sq
    simp [show s.exchange = some e from he]
  all_goals simp_all

theorem State.softReset_lawful (h : s.busView.Lawful) : s.softReset.busView.Lawful := by
  unfold State.softReset
  refine State.decide_lawful ?_
  rw [State.busView_taken, State.busView_setSeqState, State.softResetBlocks_eq, State.softResetSeq_of_seqLaw h.seq]
  cases he : s.exchange with
  | some e =>
    have busy := Phase.fits_busy (h.seq.fits he).1
    rw [State.softResetBus_of_busy (by exact busy), State.busView_startCut _ (by exact busy.2)]
    refine ⟨Nat.zero_le _, by simp [State.busView], rfl, ?_⟩
    exact ⟨rfl, e.cut, rfl, rfl, Exchange.cut_outcomeFits (h.seq.fits he).2, rfl⟩
  | none =>
    refine BusView.AtIdle.lawful ?_
    rcases h.seq.free_or_pulsing he with ha | ha
    · rw [State.softResetBus_of_free (by exact ha)]
      exact ⟨Nat.zero_le _, h.waiting, rfl, rfl, rfl, rfl, ha⟩
    · rw [State.softResetBus_of_pulsing (by exact ha), State.busView_resetByPulse,
        State.busView_busToFree _ (by exact h.waiting)]
      exact ⟨Nat.zero_le _, rfl, rfl, rfl, rfl, rfl, rfl⟩

theorem State.pinReset_lawful (s : State) : s.pinReset.busView.Lawful :=
  BusView.AtIdle.lawful ⟨Nat.zero_le _, rfl, rfl, rfl, rfl, rfl, rfl⟩

theorem State.commandWrite_lawful (h : s.busView.Lawful) (v : Byte) : (s.commandWrite v).busView.Lawful := by
  unfold State.commandWrite
  split
  · exact State.postJob_lawful h
  · exact State.popEvent_lawful h
  · exact State.abortJob_lawful h
  · exact State.purgeJobs_lawful h
  · exact State.askRearm_lawful h
  · rw [State.busView_portMark]; exact h
  · rw [State.busView_portSkip]; exact h
  · rw [State.busView_moverStart]; exact h
  · rw [State.busView_moverStart]; exact h
  · rw [State.busView_moverStop]; exact h
  · rw [State.busView_moverStop]; exact h
  · exact State.softReset_lawful h
  · exact h

/-! ### The laws across the lines -/

theorem State.askAsserted_lawful (h : s.busView.Lawful) : s.askAsserted.busView.Lawful := by
  unfold State.askAsserted
  split
  · exact h
  · refine State.decide_lawful ?_
    rw [State.busView_judgeLatch]; exact h

theorem State.askReleased_lawful (h : s.busView.Lawful) : s.askReleased.busView.Lawful := State.decide_lawful h

/-! ### Every command keeps the laws -/

/-- What keeps the laws of an access keeps them at the window, which takes it whole or not at all (R169). -/
theorem onWindow_lawful {f : State → State} {t : State} (h : s.busView.Lawful)
    (hf : (f s).busView.Lawful) (ht : onWindow f s = .next t) : t.busView.Lawful := by
  rcases onWindow_cases f s with ⟨-, heq⟩ | ⟨-, heq⟩ <;> rw [heq] at ht <;> cases ht
  · exact hf
  · exact h

/-- A meaning that leaves the view as it was keeps the laws. -/
theorem onWindow_lawful_of_view {f : State → State} {t : State} (h : s.busView.Lawful)
    (hf : (f s).busView = s.busView) (ht : onWindow f s = .next t) : t.busView.Lawful :=
  onWindow_lawful h (hf ▸ h) ht

theorem next_lawful {t u : State} (ht : (Host.Outcome.next t : Host.Outcome State Fault Refusal) = .next u)
    (h : t.busView.Lawful) : u.busView.Lawful := by
  cases ht; exact h

theorem exec_lawful {t : State} {i : Instr} (h : s.busView.Lawful) (ht : exec i s = .next t) : t.busView.Lawful := by
  cases i with
  | indexWrite v =>
    exact onWindow_lawful_of_view (f := fun t => t.setWindow { t.window with index := v.setWidth 6 }) h rfl ht
  | statusRead =>
    exact onWindow_lawful_of_view
      (f := fun t => (t.setEvents { t.events with qroom := false }).readBack t.statusByte) h rfl ht
  | cfgWrite v | intEnWrite v | sSelWrite v | lSelWrite v | pLinkWrite v | maLinkWrite v | registerWrite v =>
    exact onWindow_lawful (f := (·.dataWrite v)) h (State.dataWrite_lawful h v) ht
  | lCountLRead | lTotalLRead | maAddrLRead | maCountLRead | pFlagsRead | dataRead =>
    exact onWindow_lawful_of_view h s.busView_dataRead ht
  | portRead => exact onWindow_lawful_of_view h s.busView_portRead ht
  | portWrite v => exact onWindow_lawful_of_view (f := (·.portWrite v)) h (s.busView_portWrite v) ht
  | portMark => exact onWindow_lawful_of_view h s.busView_portMark ht
  | portSkip => exact onWindow_lawful_of_view h s.busView_portSkip ht
  | moverStart c => exact onWindow_lawful_of_view (f := (·.moverStart c)) h (s.busView_moverStart c) ht
  | moverStop c => exact onWindow_lawful_of_view (f := (·.moverStop c)) h (s.busView_moverStop c) ht
  | post => exact onWindow_lawful h (State.postJob_lawful h) ht
  | pop => exact onWindow_lawful h (State.popEvent_lawful h) ht
  | abort => exact onWindow_lawful h (State.abortJob_lawful h) ht
  | purge => exact onWindow_lawful h (State.purgeJobs_lawful h) ht
  | askRearm => exact onWindow_lawful h (State.askRearm_lawful h) ht
  | softReset => exact onWindow_lawful h (State.softReset_lawful h) ht
  | unknownCommand v => exact onWindow_lawful (f := (·.commandWrite v)) h (State.commandWrite_lawful h v) ht
  | pinReset => exact next_lawful ht s.pinReset_lawful
  | askLineAsserted => exact next_lawful ht (State.askAsserted_lawful h)
  | askLineReleased => exact next_lawful ht (State.askReleased_lawful h)
  | bgntGiven => exact next_lawful ht ((State.busView_nextMove _).symm ▸ h)
  | bgntWithdrawn => exact next_lawful ht h
  | byteMoveCompletion b => exact next_lawful ht ((s.busView_moveCompletion b).symm ▸ h)
  | linesReleased => exact next_lawful ht (State.linesReleased_lawful h)
  | ackRead =>
    refine next_lawful ht (State.onReport_lawful_onWire h (by simp +contextual [or_imp]) fun e he => ?_)
    rw [State.busView_nextMove]; exact State.takeAck_lawful he
  | nakRead =>
    exact next_lawful ht (State.onReport_lawful_onWire h (by simp +contextual [or_imp]) fun e he =>
      State.takeNak_lawful he)
  | answerReceived d m =>
    exact next_lawful ht (State.onReport_lawful_onWire h (by simp +contextual) fun e he => State.takeAnswer_lawful he _)
  | frameReceived d m =>
    exact next_lawful ht (State.onReport_lawful_onWire h (by simp +contextual) fun e he => State.takeFrame_lawful he d m)
  | nakGiven =>
    exact next_lawful ht (State.onReport_lawful_onWire h (by simp +contextual [or_imp]) fun e he =>
      State.takeNak_lawful he)
  | handback =>
    exact next_lawful ht (State.onReport_lawful_onWire h (by simp +contextual) fun e he => State.takeHandback_lawful he)
  | stbEdgeInHandback =>
    refine next_lawful ht (State.onReport_lawful h fun e he _ => ?_)
    split
    · exact State.failExchange_lawful h he e rfl
    · exact h
  | answerTimeout =>
    exact next_lawful ht (State.onReport_lawful_onWire h (by simp +contextual) fun e he =>
      (he.of_view (s.busView_reportStation _ _)).endExchange_lawful e _)
  | frameTimeout =>
    exact next_lawful ht (State.onReport_lawful h fun e he _ => State.failExchange_lawful h he e rfl)
  | turnError =>
    exact next_lawful ht (State.onReport_lawful h fun e he _ => State.failExchange_lawful h he e rfl)
  | cutCompletion => exact next_lawful ht (State.cutCompletion_lawful h)
  | pulseCompletion => exact next_lawful ht (State.pulseCompletion_lawful h)
  | busyDelayEnd => exact next_lawful ht (State.busyDelayEnd_lawful h)
  | nextStep => exact next_lawful ht (State.nextStep_lawful h)
  | noPattern => exact next_lawful ht (s.busView_noPattern.symm ▸ h)
  | answerTenthBit => exact next_lawful ht (s.busView_answerTenthBit.symm ▸ h)

/-- A step keeps the laws: the command at the front of the queue does, and an idle step changes nothing (log 5). -/
theorem step_lawful {t : State} (h : s.busView.Lawful) (ht : step s = .next t) : t.busView.Lawful := by
  unfold step at ht
  split at ht
  · exact next_lawful ht h
  next c rest _ => exact exec_lawful (s := s.setPending rest) h ht

end Commands

end Sys2Proof.Machine

open Sys2Proof.Machine in
/-- Settles O51: the laws look at the view alone, and each command keeps the laws of the view. -/
theorem stepKeepsBusLaw : Obligations.StepKeepsBusLaw := by
  intro s t hq hb ht
  exact t.busView_lawful_iff.mp (step_lawful (s.busView_lawful_iff.mpr ⟨hq, hb⟩) ht)

/-! # Frames and their parity (R3) -/

namespace Sys2Proof.Machine

/-- The number of 1 bits below a place depends on these bits alone. -/
theorem onesBelow_congr {x y n : Nat} (h : ∀ i < n, x.testBit i = y.testBit i) : onesBelow x n = onesBelow y n := by
  induction n with
  | zero => rfl
  | succ n ih => simp only [onesBelow, ih fun i hi => h i (by omega), h n (by omega)]

/-- A bit changed at a place below `n` changes the parity of the number of 1 bits below `n`. -/
theorem onesBelow_xor_two_pow (x i n : Nat) :
    onesBelow (x ^^^ 2 ^ i) n % 2 = (onesBelow x n + bitVal (decide (i < n))) % 2 := by
  induction n with
  | zero => rfl
  | succ n ih =>
    have bit : (bitVal ((x ^^^ 2 ^ i).testBit n)) % 2 = (bitVal (x.testBit n) + bitVal (decide (i = n))) % 2 := by
      rw [Nat.testBit_xor, Nat.testBit_two_pow]
      cases x.testBit n <;> cases decide (i = n) <;> rfl
    have place : bitVal (decide (i < n + 1)) = bitVal (decide (i < n)) + bitVal (decide (i = n)) := by
      rcases Nat.lt_trichotomy i n with h | h | h <;> simp [bitVal] <;> grind
    simp only [onesBelow, place]
    omega

theorem bitVal_le_one (b : Bool) : bitVal b ≤ 1 := by cases b <;> decide

/-- The parity bit makes the number of 1 bits odd, and a frame's ten bits are this number (R3). -/
theorem Frame.bits_toNat (f : Frame) :
    f.bits.toNat = 2 ^ 8 * (2 * bitVal f.parity + bitVal f.mark) + f.data.toNat := by
  have := f.data.isLt
  have := bitVal_le_one f.parity
  have := bitVal_le_one f.mark
  simp only [Frame.bits, BitVec.toNat_ofNat]
  omega

theorem Frame.testBit_bits (f : Frame) (k : Nat) : f.bits.toNat.testBit k =
    if k < 8 then f.data.toNat.testBit k else (2 * bitVal f.parity + bitVal f.mark).testBit (k - 8) := by
  rw [f.bits_toNat, Nat.testBit_two_pow_mul_add _ f.data.isLt]

theorem Frame.testBit_mark (f : Frame) : f.bits.toNat.testBit 8 = f.mark := by
  rw [f.testBit_bits]; cases f.parity <;> cases f.mark <;> rfl

theorem Frame.testBit_parity (f : Frame) : f.bits.toNat.testBit 9 = f.parity := by
  rw [f.testBit_bits]; cases f.parity <;> cases f.mark <;> rfl

/-- The 1 bits of a frame: those of its data, its mark and its parity bit. -/
theorem Frame.onesBelow_bits (f : Frame) :
    onesBelow f.bits.toNat 10 = onesBelow f.data.toNat 8 + bitVal f.mark + bitVal f.parity := by
  have data : onesBelow f.bits.toNat 8 = onesBelow f.data.toNat 8 :=
    onesBelow_congr fun i hi => by rw [f.testBit_bits, if_pos hi]
  simp only [onesBelow, f.testBit_mark, f.testBit_parity] at data ⊢
  omega

theorem Frame.onesBelow_bits_odd (f : Frame) : onesBelow f.bits.toNat 10 % 2 = 1 := by
  rw [f.onesBelow_bits, Frame.parity]
  generalize onesBelow f.data.toNat 8 + bitVal f.mark = k
  rcases Nat.mod_two_eq_zero_or_one k with h | h <;> rw [h]
  · show (k + 1) % 2 = 1; omega
  · exact h

theorem frameOfBits_bits (f : Frame) : frameOfBits f.bits = f := by
  have data : f.bits.setWidth 8 = f.data := by
    apply BitVec.eq_of_toNat_eq
    have := f.data.isLt
    rw [BitVec.toNat_setWidth, f.bits_toNat]
    omega
  have mark : f.bits.getLsbD 8 = f.mark := f.testBit_mark
  rw [frameOfBits, data, mark]

end Sys2Proof.Machine

/-- Settles O34: the parity bit makes the number of 1 bits odd, and a changed bit makes it even. -/
theorem frameParity : Obligations.FrameParity := by
  intro f i
  refine ⟨by simp [Sys2Proof.Machine.goodParity, f.onesBelow_bits_odd], Sys2Proof.Machine.frameOfBits_bits f, ?_⟩
  have hbit : (f.bits ^^^ (1#10 <<< i.val)).toNat = f.bits.toNat ^^^ 2 ^ i.val := by
    have : 2 ^ i.val < 2 ^ 10 := Nat.pow_lt_pow_right (by decide) i.isLt
    rw [BitVec.toNat_xor, BitVec.toNat_shiftLeft, BitVec.toNat_ofNat, Nat.shiftLeft_eq]
    simpa using this
  have hflip := Sys2Proof.Machine.onesBelow_xor_two_pow f.bits.toNat i.val 10
  rw [Nat.add_mod, f.onesBelow_bits_odd] at hflip
  simp [Sys2Proof.Machine.goodParity, hbit, hflip, Sys2Proof.Machine.bitVal]

/-! # DATA writes of the configuration and staging registers (R84, R139, R172) -/

namespace Sys2Proof.Machine

/-- While the window is not shut an access is taken whole (R169). -/
theorem onWindow_open (f : State → State) {s : State} (h : s.windowShut = false) : onWindow f s = .next (f s) := by
  simp [onWindow, h]

/-! ### Bytes cut to fields -/

theorem setWidth_eq_ofNat {n m : Nat} (v : BitVec n) : v.setWidth m = BitVec.ofNat m v.toNat :=
  BitVec.eq_of_toNat_eq (by simp)

theorem high_nibble_eq (v : Byte) : (v >>> 4).setWidth 4 = BitVec.ofNat 4 (v.toNat / 16) :=
  BitVec.eq_of_toNat_eq (by simp [Nat.shiftRight_eq_div_pow])

/-- A written low nibble of 0 is stored as 1 (R17). -/
theorem atLeastOne_low_nibble (v : Byte) :
    atLeastOne (v.setWidth 4 : BitVec 4) = if v.toNat % 16 = 0 then 1 else BitVec.ofNat 4 v.toNat := by
  have hz : (v.setWidth 4 : BitVec 4) = 0 ↔ v.toNat % 16 = 0 := by
    rw [← BitVec.toNat_inj]; simp
  rw [atLeastOne, setWidth_eq_ofNat] at *
  simp only [hz]

/-! ### A stored setting -/

/-- A DATA write that stores settings, with CFG.STEP as it was: CMDERR is cleared and INDEX steps (R171, R176). -/
theorem State.dataWrite_setting {s u : State} {r : Reg} {v : Byte} {g : Settings}
    (hr : regOfIndex s.window.index = some r) (hw : s.writeReg r v = storeSetting u g) (hu : u.window = s.window)
    (hg : g.step = s.settings.step) :
    s.dataWrite v = { u with settings := g, window := s.window.afterTaken s.settings.step } := by
  simp only [State.dataWrite, hr, hw, storeSetting, State.autoStep, State.taken, Window.afterTaken]
  simp only [State.setSettings, State.setWindow, hu, hg]
  cases s.settings.step <;> rfl

/-- A DATA write at the index of a register that stores settings and leaves every other block as it was. -/
theorem State.onWindow_dataWrite_setting {s : State} {r : Reg} {v : Byte} {g : Settings} (hs : s.windowShut = false)
    (hr : regOfIndex s.window.index = some r) (hw : s.writeReg r v = storeSetting s g)
    (hg : g.step = s.settings.step) :
    onWindow (fun t => t.dataWrite v) s = .next { s with
      settings := g, window := s.window.afterTaken s.settings.step } := by
  rw [onWindow_open _ hs, State.dataWrite_setting hr hw rfl hg]

end Sys2Proof.Machine

section
open Sys2Proof.Machine

/-- Settles O7: at each of these indices the register named stores the value the map gives. -/
theorem configurationAndStagingWrites : Obligations.ConfigurationAndStagingWrites := by
  have at_index {s : State} {k : BitVec 6} {r : Reg} (hk : s.window.index = k) (hr : regOfIndex k = some r) :
      regOfIndex s.window.index = some r := by rw [hk, hr]
  constructor
  · intro s v hs
    refine ⟨fun hi => ?_, fun hi => ?_, fun hi => ?_, fun hi => ?_, fun hi => ?_, fun hi => ?_, fun hi => ?_,
      fun hi => ?_⟩
    · exact State.onWindow_dataWrite_setting hs (at_index hi rfl) rfl rfl
    · exact State.onWindow_dataWrite_setting hs (at_index hi rfl) rfl rfl
    · refine (onWindow_open (·.dataWrite v) hs).trans ?_
      rw [State.dataWrite_setting (at_index hi rfl) rfl rfl rfl]
      rfl
    · exact State.onWindow_dataWrite_setting hs (at_index hi rfl) rfl rfl
    · rw [← high_nibble_eq, ← setWidth_eq_ofNat]
      exact State.onWindow_dataWrite_setting hs (at_index hi rfl) rfl rfl
    · exact State.onWindow_dataWrite_setting hs (at_index hi rfl) rfl rfl
    · rw [← atLeastOne_low_nibble]
      exact State.onWindow_dataWrite_setting hs (at_index hi rfl) rfl rfl
    · rw [← setWidth_eq_ofNat]
      exact State.onWindow_dataWrite_setting hs (at_index hi rfl) rfl rfl
  · intro s v hs hlo hhi
    rw [← setWidth_eq_ofNat]
    have hk : ∃ k : Fin 8, s.window.index = BitVec.ofNat 6 (10 + k.val) :=
      ⟨⟨s.window.index.toNat - 10, by omega⟩, BitVec.eq_of_toNat_eq (by simp; omega)⟩
    obtain ⟨k, hk⟩ := hk
    fin_cases k <;> simp only [hk] <;> exact State.onWindow_dataWrite_setting hs (at_index hk rfl) rfl rfl

end

/-! # DATA reads (R171, R172, section 10.6) -/

namespace Sys2Proof.Machine

/-! ### What a DATA read returns and what it leaves -/

section DataRead
variable (s : State)

/-- A DATA read returns the value of the register INDEX selects. -/
theorem State.dataRead_readData {s : State} {r : Reg} (hr : regOfIndex s.window.index = some r) :
    s.dataRead.pins.readData = s.readReg r := by
  simp only [State.dataRead, hr, State.autoStep]
  split <;> rfl

/-- A DATA read at a given index. -/
theorem State.dataRead_at {s : State} {k : BitVec 6} {r : Reg} (hk : s.window.index = k) (hr : regOfIndex k = some r) :
    s.dataRead.pins.readData = s.readReg r :=
  State.dataRead_readData (hk ▸ hr)

/-- What reading a register changes leaves the tables, the events, the settings and PURGED as they were. -/
theorem State.readEffect_frame (r : Reg) :
    (s.readEffect r).events = s.events ∧ (s.readEffect r).stations = s.stations ∧ (s.readEffect r).links = s.links ∧
      (s.readEffect r).settings = s.settings ∧ (s.readEffect r).window.purged = s.window.purged := by
  unfold State.readEffect
  split <;> exact ⟨rfl, rfl, rfl, rfl, rfl⟩

theorem State.dataRead_frame :
    s.dataRead.events = s.events ∧ s.dataRead.stations = s.stations ∧ s.dataRead.links = s.links ∧
      s.dataRead.settings = s.settings ∧ s.dataRead.window.purged = s.window.purged := by
  unfold State.dataRead State.autoStep
  cases regOfIndex s.window.index with
  | none => dsimp only; split <;> exact ⟨rfl, rfl, rfl, rfl, rfl⟩
  | some r => dsimp only; split <;> exact s.readEffect_frame r

end DataRead

/-! ### Codes and layouts as numbers (R176, R179, section 10.6.4) -/

/-- A byte made of bits is the sum of their weights. -/
theorem byteOfBits_toNat (b7 b6 b5 b4 b3 b2 b1 b0 : Bool) :
    (byteOfBits b7 b6 b5 b4 b3 b2 b1 b0).toNat = 128 * bitVal b7 + 64 * bitVal b6 + 32 * bitVal b5 + 16 * bitVal b4 +
      8 * bitVal b3 + 4 * bitVal b2 + 2 * bitVal b1 + bitVal b0 := by
  have := bitVal_le_one b7; have := bitVal_le_one b6; have := bitVal_le_one b5; have := bitVal_le_one b4
  have := bitVal_le_one b3; have := bitVal_le_one b2; have := bitVal_le_one b1; have := bitVal_le_one b0
  rw [byteOfBits, BitVec.toNat_ofNat]
  omega

theorem SeqState.code_le (q : SeqState) : q.code ≤ 5 := by cases q <;> decide
theorem Presence.code_le (p : Presence) : p.code ≤ 2 := by cases p <;> decide
theorem Capability.code_le (c : Capability) : c.code ≤ 2 := by cases c <;> decide
theorem LinkState.code_le (l : LinkState) : l.code ≤ 4 := by cases l <;> decide
theorem holderCode_le (h : Option Chan) : holderCode h ≤ 2 := by rcases h with _ | _ | _ <;> decide

theorem Station.entryByte_toNat (e : Station) : e.entryByte.toNat =
    e.presence.code + 4 * e.capability.code + 16 * bitVal e.demoted + 32 * bitVal e.streak +
      64 * bitVal e.askPending := by
  have := e.presence.code_le; have := e.capability.code_le
  have := bitVal_le_one e.demoted; have := bitVal_le_one e.streak; have := bitVal_le_one e.askPending
  rw [Station.entryByte, BitVec.toNat_ofNat]
  omega

theorem Link.stateByte_toNat (l : Link) :
    l.stateByte.toNat = l.state.code + 8 * bitVal l.messageOpen + 16 * holderCode l.holder := by
  have := l.state.code_le; have := bitVal_le_one l.messageOpen; have := holderCode_le l.holder
  rw [Link.stateByte, BitVec.toNat_ofNat]
  omega

theorem Link.endByte_toNat (l : Link) :
    l.endByte.toNat = l.station.val + 16 * l.channel.toNat + 128 * bitVal (dirBit l.dir) := by
  have : l.station.val < 14 := l.station.isLt
  have := l.channel.isLt; have := bitVal_le_one (dirBit l.dir)
  rw [Link.endByte, BitVec.toNat_ofNat]
  omega

theorem ofNat_byte_toNat {n : Nat} (h : n < 256) : (BitVec.ofNat 8 n).toNat = n := by
  rw [BitVec.toNat_ofNat, Nat.mod_eq_of_lt h]

/-- SEQ: the stall, and the code of the sequencer's state (section 10.6.4). -/
theorem State.readReg_seq_toNat (s : State) :
    (s.readReg .seq).toNat = 128 * bitVal (s.seq.state == .idle && s.seq.stall) + s.seq.state.code := by
  have := s.seq.state.code_le; have := bitVal_le_one s.stalled
  exact ofNat_byte_toNat (by omega)

/-- RETRY: the busy limit and the frame limit (R12, R95). -/
theorem State.readReg_retry_toNat (s : State) :
    (s.readReg .retry).toNat = s.settings.busyLimit.toNat + 16 * s.settings.frameLimit.toNat := by
  have := s.settings.busyLimit.isLt; have := s.settings.frameLimit.isLt
  rw [State.readReg, BitVec.toNat_ofNat]
  omega

theorem lowByte_toNat (w : Word16) : (lowByte w).toNat = w.toNat % 256 := by
  simp [lowByte]

theorem highByte_toNat (w : Word16) : (highByte w).toNat = w.toNat / 256 := by
  have := w.isLt
  simp only [highByte, BitVec.toNat_setWidth, BitVec.toNat_ushiftRight, Nat.shiftRight_eq_div_pow]
  omega

/-- A Running channel with no stop pending has work while its ring holds bytes, of an IN link, or has space, of an OUT one
(R158). -/
theorem State.hasWork_iff (s : State) (c : Chan) : s.hasWork c = true ↔
    (s.chan c).running = true ∧ (s.chan c).stopPending = none ∧
      (((s.chan c).dir = .input ∧ (s.link (s.chan c).link).ring ≠ []) ∨
        ((s.chan c).dir = .output ∧
          (s.link (s.chan c).link).ring.length < 256 * (s.link (s.chan c).link).pages.length)) := by
  cases hd : (s.chan c).dir <;>
    simp [State.hasWork, hd, Link.count, Link.space, Link.capacity, and_assoc, Nat.sub_ne_zero_iff_lt]

/-! ### The registers of a mover channel -/

/-- The index that is `n`, as a word. -/
theorem State.index_eq {s : State} {n : Nat} (h : s.window.index.toNat = n) : s.window.index = BitVec.ofNat 6 n := by
  rw [← h, BitVec.ofNat_toNat, BitVec.setWidth_eq]

/-- A DATA read of the link of a channel. -/
theorem State.dataRead_moverLink {s : State} {c : Chan} (h : s.window.index.toNat = 48 + 8 * chanCode c) :
    s.dataRead.pins.readData.toNat = (s.chan c).link.val := by
  have hr : regOfIndex (BitVec.ofNat 6 (48 + 8 * chanCode c)) = some (.mover c .link) := by cases c <;> rfl
  have : (s.chan c).link.val < 12 := (s.chan c).link.isLt
  rw [State.dataRead_at (State.index_eq h) hr]
  exact ofNat_byte_toNat (by omega)

/-- A DATA read of the mode of a channel. -/
theorem State.dataRead_moverMode {s : State} {c : Chan} (h : s.window.index.toNat = 53 + 8 * chanCode c) :
    s.dataRead.pins.readData.toNat = bitVal (s.chan c).mode := by
  have hr : regOfIndex (BitVec.ofNat 6 (53 + 8 * chanCode c)) = some (.mover c .mode) := by cases c <;> rfl
  have := bitVal_le_one (s.chan c).mode
  rw [State.dataRead_at (State.index_eq h) hr]
  exact ofNat_byte_toNat (by omega)

/-- A DATA read of the state of a channel: Running, its direction, and whether it has work. -/
theorem State.dataRead_moverState {s : State} {c : Chan} (h : s.window.index.toNat = 54 + 8 * chanCode c) :
    s.dataRead.pins.readData.toNat =
      bitVal (s.chan c).running + 2 * bitVal (dirBit (s.chan c).dir) + 4 * bitVal (s.hasWork c) := by
  have hr : regOfIndex (BitVec.ofNat 6 (54 + 8 * chanCode c)) = some (.mover c .state) := by cases c <;> rfl
  rw [State.dataRead_at (State.index_eq h) hr]
  simp only [State.readReg, State.readMoverReg, byteOfBits_toNat]
  simp [bitVal]
  omega

end Sys2Proof.Machine

section
open Sys2Proof.Machine

/-- Settles O10: a DATA read returns the register INDEX selects, and each register reads its fields in their places. -/
theorem headAndViewRegistersRead : Obligations.HeadAndViewRegistersRead := by
  refine ⟨?head, ?views, ?control, ?settings⟩
  case head =>
    intro s hs hlo hhi
    refine ⟨s.dataRead, onWindow_open _ hs, s.dataRead_frame.1, ?_⟩
    have hk : ∃ k : Fin 8, s.window.index = BitVec.ofNat 6 (18 + k.val) :=
      ⟨⟨s.window.index.toNat - 18, by omega⟩, BitVec.eq_of_toNat_eq (by simp; omega)⟩
    obtain ⟨k, hk⟩ := hk
    cases he : s.events.held with
    | nil =>
      fin_cases k <;> rw [State.dataRead_at hk rfl] <;> simp only [hk] <;>
        simp [State.readReg, State.offset3Byte, State.headField, he]
    | cons e rest =>
      fin_cases k <;> rw [State.dataRead_at hk rfl] <;> simp only [hk] <;>
        simp [State.readReg, State.offset3Byte, State.headField, he, lowByte_toNat, highByte_toNat]
      · rcases e.kind with k | _ | _ | _ | _
        · cases k <;> rfl
        all_goals rfl
      · rcases e.result with r | r <;> cases r <;> rfl
  case views =>
    intro s hs
    obtain ⟨-, stations, links, -⟩ := s.dataRead_frame
    refine ⟨s.dataRead, onWindow_open _ hs, stations, links, ?_⟩
    refine ⟨fun h => ?_, fun h => ?_, fun h => ?_, fun h => ?_, fun h => ?_, fun h => ?_, fun h => ?_, fun h => ?_⟩ <;>
      rw [State.dataRead_at h rfl]
    · exact Station.entryByte_toNat _
    · exact ofNat_byte_toNat ((bitVal_le_one _).trans_lt (by decide))
    · rfl
    · exact Link.stateByte_toNat _
    · exact Link.endByte_toNat _
    · exact BitVec.toNat_ofNat ..
    · rw [← List.countP_eq_length_filter]; exact BitVec.toNat_ofNat ..
    · exact BitVec.toNat_ofNat ..
  case control =>
    intro s c hs
    refine ⟨s.dataRead, onWindow_open _ hs, s.dataRead_frame.2.2.2.2, ?_⟩
    refine ⟨fun h => ?_, fun h => ?_, fun h => ?_, fun h => ?_, fun h => ?_, fun h => ?_, fun h => ?_, fun h => ?_,
      State.dataRead_moverLink, State.dataRead_moverMode, fun h => ?_⟩
    case refine_9 =>
      rw [State.dataRead_moverState h]
      congr 2
      rw [bitVal]
      exact if_congr (s.hasWork_iff c) rfl rfl
    all_goals rw [State.dataRead_at h rfl]
    · exact s.readReg_seq_toNat
    · exact BitVec.toNat_ofNat ..
    · cases hj : s.jobs <;> simp [State.readReg, hj]
    · exact BitVec.toNat_ofNat ..
    · cases hr : s.window.refuse with
      | none => simp [State.readReg, hr]
      | some r => cases r <;> simp [State.readReg, hr, Reason.code]
    · have : s.window.sSel.val < 14 := s.window.sSel.isLt
      exact ofNat_byte_toNat (by omega)
    · have : s.window.lSel.val < 12 := s.window.lSel.isLt
      exact ofNat_byte_toNat (by omega)
    · have : s.port.link.val < 12 := s.port.link.isLt
      exact ofNat_byte_toNat (by omega)
  case settings =>
    intro s hs
    refine ⟨s.dataRead, onWindow_open _ hs, s.dataRead_frame.2.2.2.1, fun hi => ?_⟩
    rcases hi with hhi | ⟨hlo, hhi⟩
    · have hk : ∃ k : Fin 9, s.window.index = BitVec.ofNat 6 k.val :=
        ⟨⟨s.window.index.toNat, by omega⟩, BitVec.eq_of_toNat_eq (by simp)⟩
      obtain ⟨k, hk⟩ := hk
      fin_cases k <;> rw [State.dataRead_at hk rfl] <;> simp only [hk]
      · simp only [State.readReg, byteOfBits_toNat]
        simp [bitVal]
        omega
      · simp only [State.readReg, byteOfBits_toNat]
        simp [bitVal]
        omega
      · rfl
      · rfl
      · rfl
      · exact s.readReg_retry_toNat
      · rfl
      · exact ofNat_byte_toNat (s.settings.rstPulse.isLt.trans (by decide))
      · exact ofNat_byte_toNat (s.settings.clkRate.isLt.trans (by decide))
    · have hk : ∃ k : Fin 8, s.window.index = BitVec.ofNat 6 (10 + k.val) :=
        ⟨⟨s.window.index.toNat - 10, by omega⟩, BitVec.eq_of_toNat_eq (by simp; omega)⟩
      obtain ⟨k, hk⟩ := hk
      fin_cases k <;> rw [State.dataRead_at hk rfl] <;> simp only [hk]
      · rfl
      · rfl
      · rfl
      · rfl
      · exact ofNat_byte_toNat (s.settings.jChan.isLt.trans (by decide))
      · rfl
      · rfl
      · exact ofNat_byte_toNat (s.settings.jLimitH.isLt.trans (by decide))

end

/-! # Pin reset (R19 and the rules of each block) -/

namespace Sys2Proof.Machine

/-- At pin reset a register reads what it reads in the state right after power-up: none shows what pin reset keeps. -/
theorem State.pinReset_readReg (s : State) (r : Reg) : s.pinReset.readReg r = State.reset.readReg r := by
  cases r with
  | mover c m => cases c <;> cases m <;> rfl
  | _ => rfl

/-- No register shows INDEX. -/
theorem State.readReg_setIndex (s : State) (k : BitVec 6) (r : Reg) :
    (s.setWindow { s.window with index := k }).readReg r = s.readReg r := by
  cases r with
  | mover c m => cases c <;> cases m <;> rfl
  | _ => rfl

/-- The value of the row of the register map at an index right after pin reset (section 10.3). -/
theorem regOfIndex_reset_read : ∀ k : BitVec 6,
    ((regOfIndex k).elim 0 State.reset.readReg : Byte) = (match k.toNat with
      | 0 => 0x03
      | 2 => 32
      | 3 => 8
      | 4 => 16
      | 5 => 0x23
      | 6 => 10
      | 7 => 4
      | 8 => 1
      | 45 => 16
      | _ => 0) := by
  decide

/-- What a DATA read returns: the register INDEX selects, or 0 at an unassigned index (R171). -/
theorem State.dataRead_readData_elim (s : State) :
    s.dataRead.pins.readData = (regOfIndex s.window.index).elim 0 s.readReg := by
  cases hr : regOfIndex s.window.index with
  | none =>
    simp only [State.dataRead, hr, State.autoStep]
    split <;> rfl
  | some r => exact State.dataRead_readData hr

end Sys2Proof.Machine

section
open Sys2Proof Sys2Proof.Machine

/-- Settles O50: pin reset is the state after power-up but for what log 3 keeps, and each register reads its row of the
map there. -/
theorem pinResetResult : Obligations.PinResetResult := by
  constructor
  · exact fun s => rfl
  · intro s i
    let u := s.pinReset.setWindow { s.pinReset.window with index := i.setWidth 6 }
    have hopen : s.pinReset.windowShut = false := Bool.and_false _
    refine ⟨s.pinReset, u, u.dataRead, rfl, rfl, rfl, ?_, ?_, ?_, ?_⟩
    · cases ha : s.pins.askLine <;> simp [State.statusByte, State.pinReset, ha] <;> rfl
    · exact onWindow_open (fun t => t.setWindow { t.window with index := i.setWidth 6 }) hopen
    · exact onWindow_open (·.dataRead) hopen
    · have hread : u.readReg = State.reset.readReg := by
        funext r
        rw [State.readReg_setIndex, State.pinReset_readReg]
      rw [State.dataRead_readData_elim, hread]
      have := regOfIndex_reset_read (i.setWidth 6)
      rw [BitVec.toNat_setWidth] at this
      exact this

end

/-! # Reports of the bus unit: header frames, slots and failures (chapter 1, R23, R39) -/

namespace Sys2Proof.Machine

/-! ### A report that leaves the arbiter nothing to decide -/

/-- The arbiter's decision after an event that leaves an Idle sequencer Idle and a busy one busy. -/
theorem State.settle_of_idle_iff {s t : State} (h : t.seq.state = .idle → s.seq.state = .idle) : State.settle s t = t := by
  by_cases hs : s.seq.state = .idle
  · exact s.settle_of_idle t hs
  · rw [s.settle_of_not_idle t hs, State.decide_of_not_idle t (hs ∘ h)]

/-- A report on the exchange in progress that the bus unit gives (R2). -/
theorem State.onReport_eq {s : State} {e : Exchange} (he : s.exchange = some e) {w : Bool} (hw : w = true)
    (f : Exchange → State) : s.onReport w f = State.settle s (f e) := by
  simp [State.onReport, he, hw]

/-- A report whose effect does not end the job or the scan in progress: the effect itself is the next state. -/
theorem State.onReport_undecided {s : State} {e : Exchange} (he : s.exchange = some e) {w : Bool} (hw : w = true)
    {f : Exchange → State} (hf : (f e).seq.state = .idle → s.seq.state = .idle) : s.onReport w f = f e := by
  rw [State.onReport_eq he hw, State.settle_of_idle_iff hf]

theorem State.nextMove_seq (s : State) : s.nextMove.seq.state = s.seq.state :=
  congrArg BusView.seq s.busView_nextMove

/-! ### Header frames (R13, R23) -/

section Header
variable {s : State} {e : Exchange}

/-- The ACK of one of the first two header frames: the next one is sent. -/
theorem State.ackRead_header (he : s.exchange = some e) (ha : s.bus.activity = .header) (hi : s.bus.headerIndex < 2) :
    s.ackRead = State.nextMove ((s.setBus { s.bus with headerIndex := s.bus.headerIndex + 1 }).sendFrame .header
      (e.headerFrame (s.bus.headerIndex + 1))) := by
  have hack : s.takeAck e = (s.setBus { s.bus with headerIndex := s.bus.headerIndex + 1 }).sendFrame .header
      (e.headerFrame (s.bus.headerIndex + 1)) := by
    simp only [State.takeAck, ha, hi, if_true]
  rw [← hack]
  refine State.onReport_undecided he (by simp [ha]) fun hq => ?_
  rw [State.nextMove_seq, hack] at hq
  exact hq

/-- The ACK of the third header frame: the turnaround begins. -/
theorem State.ackRead_header_end (he : s.exchange = some e) (ha : s.bus.activity = .header)
    (hi : s.bus.headerIndex = 2) : s.ackRead = State.nextMove
      ((s.setExchange (some { e with phase := .answer })).setBus (s.bus.startTurnaround s.settings)) := by
  have hack : s.takeAck e =
      (s.setExchange (some { e with phase := .answer })).setBus (s.bus.startTurnaround s.settings) := by
    simp [State.takeAck, ha, hi]
  rw [← hack]
  refine State.onReport_undecided he (by simp [ha]) fun hq => ?_
  rw [State.nextMove_seq, hack] at hq
  exact hq

/-- A NAK within the frame limit (R10, R11). -/
theorem State.takeNak_within (e : Exchange) (h : s.bus.nakCount + 1 ≤ s.settings.frameLimit.toNat) :
    s.takeNak e = s.setBus (s.bus.countNak s.settings) := by
  have hn : s.bus.nakExceeds s.settings = false := by simpa [BusUnit.nakExceeds] using h
  simp [State.takeNak, hn]

/-- A NAK report within the frame limit leaves the arbiter nothing to decide. -/
theorem State.onReport_takeNak_within (he : s.exchange = some e) {w : Bool} (hw : w = true)
    (h : s.bus.nakCount + 1 ≤ s.settings.frameLimit.toNat) :
    (s.onReport w fun e => s.takeNak e) = s.setBus (s.bus.countNak s.settings) := by
  rw [← State.takeNak_within e h]
  refine State.onReport_undecided he hw fun hq => ?_
  rwa [State.takeNak_within e h] at hq

end Header

end Sys2Proof.Machine

section
open Sys2Proof.Machine

/-- Settles O35: each report goes to the exchange in progress and ends neither job nor scan, so its effect is the next
state. -/
theorem headerFramesAndSlots : Obligations.HeaderFramesAndSlots := by
  constructor
  · intro s e he
    refine ⟨fun ha => ?_, fun ha hi => ?_, fun ha hi => ?_, fun ha hi => ?_⟩
    · exact congrArg Host.Outcome.next (State.onReport_undecided he (by simp [ha]) id)
    · refine congrArg Host.Outcome.next ((State.ackRead_header he ha (by omega)).trans ?_)
      rw [hi]
      exact congrArg State.nextMove (by rw [← ha]; rfl)
    · refine congrArg Host.Outcome.next ((State.ackRead_header he ha (by omega)).trans ?_)
      rw [hi]
      exact congrArg State.nextMove (by rw [← ha]; rfl)
    · exact congrArg Host.Outcome.next (State.ackRead_header_end he ha hi)
  · intro s e he
    refine ⟨fun hn => ⟨fun ha => ?_, fun ha => ?_⟩, fun ha => ?_, fun ha => ?_⟩
    · exact congrArg Host.Outcome.next (State.onReport_takeNak_within he (by simpa using ha) hn)
    · exact congrArg Host.Outcome.next (State.onReport_takeNak_within he (by simpa using ha) hn)
    · exact congrArg Host.Outcome.next (if_pos (by simpa using ha))
    · exact congrArg Host.Outcome.next (if_pos ha)

end

namespace Sys2Proof.Machine

/-! ### What a failure changes (R16, R37, R39, R75) -/

section Failure
variable {s : State}

/-- The Active job is a CENSUS: there is an Active job, and the head job is one. -/
theorem State.inCensus_eq (s : State) :
    s.inCensus = (s.active.isSome && s.jobs.head?.any fun j => j.kind == .census) := by
  unfold State.inCensus State.activeJob
  cases s.jobs <;> cases s.active <;> rfl

theorem State.inCensus_congr {t : State} (h : t.busView = s.busView) : t.inCensus = s.inCensus := by
  have ha : t.active.isSome = s.active.isSome := congrArg BusView.active h
  have hj : t.jobs = s.jobs := congrArg BusView.jobs h
  rw [State.inCensus_eq, State.inCensus_eq, ha, hj]

/-- The reports of a failure reach the station table, and the Active job's context with a demotion (R49, R50, R97). -/
theorem State.failureReports_eq (s : State) (e : Exchange) (o : ExchangeOutcome) :
    s.failureReports e o = { s with
      stations := (s.failureReports e o).stations, active := (s.failureReports e o).active } := by
  unfold State.failureReports State.reportPace
  split
  · dsimp only; split <;> rfl
  · split
    · dsimp only; split <;> rfl
    · rfl

/-- A failure of a Basic phase, or one that is not of framing, makes no report (R38, R39). -/
theorem State.failureReports_of_none {e : Exchange} {o : ExchangeOutcome} (h : e.isClocked = false ∨ o.framing = false) :
    s.failureReports e o = s := by
  rcases h with h | h <;> simp [State.failureReports, h]

theorem State.putBackByte_eq (s : State) (e : Exchange) :
    s.putBackByte e = { s with links := (s.putBackByte e).links } := by
  unfold State.putBackByte State.mapJobLink
  split
  · split <;> rfl
  · rfl

theorem State.putBackByte_of_not_put {e : Exchange} (h : e.kind ≠ .put) : s.putBackByte e = s := by
  simp [State.putBackByte, h]

/-- The byte in flight of the Active PUT stays the oldest byte of its ring (R75). -/
theorem State.putBackByte_links {e : Exchange} {j : Job} {rest : List Job} (h : e.kind = .put) (hj : s.jobs = j :: rest)
    (ha : s.active.isSome = true) :
    (s.putBackByte e).links = s.links.set j.linkIndex { s.link j.linkIndex with inFlight := false } := by
  obtain ⟨x, hx⟩ := Option.isSome_iff_exists.mp ha
  simp [State.putBackByte, h, State.mapJobLink, State.activeJob, hj, hx, State.setLink, Link.putBack]

/-- The sequencer enters Cutting from Running, but for a census (R39, R94). -/
theorem State.cutForJob_eq (s : State) : s.cutForJob = { s with
    seq := if s.seq.state = .running ∧ s.inCensus = false then { s.seq with state := .cutting } else s.seq } := by
  unfold State.cutForJob
  split <;> rfl

/-- The state after a failure report: the reports made, the exchange in Cut, the CUT begun, the sequencer Cutting (R39). -/
theorem State.failExchange_eq (hp : s.bus.activity ≠ .pulsing) (e : Exchange) (o : ExchangeOutcome) :
    s.failExchange e o = { s with
      exchange := some (e.failed o)
      bus := s.bus.inCut
      seq := if s.seq.state = .running ∧ s.inCensus = false then { s.seq with state := .cutting } else s.seq
      stations := (s.failureReports e o).stations
      active := (s.failureReports e o).active
      links := ((s.failureReports e o).putBackByte e).links } := by
  have hcensus : ((((s.failureReports e o).putBackByte e).setExchange (some (e.failed o))).startCut).inCensus =
      s.inCensus := by
    have hview := ((s.failureReports e o).busView_putBackByte e).trans (s.busView_failureReports e o)
    rw [← State.inCensus_congr hview, State.inCensus_eq, State.inCensus_eq]
    rfl
  rw [State.failExchange, State.cutForJob_eq, hcensus, State.startCut, State.putBackByte_eq, State.failureReports_eq]
  simp only [State.setBus, State.setExchange, BusUnit.startCut_of_not_pulsing _ hp]

theorem State.failExchange_idle (hp : s.bus.activity ≠ .pulsing) (e : Exchange) (o : ExchangeOutcome) :
    (s.failExchange e o).seq.state = .idle → s.seq.state = .idle := by
  rw [State.failExchange_eq hp]
  intro h
  dsimp only at h
  split at h
  · cases h
  · exact h

/-- A failure report on the exchange in progress: the failure itself is the next state. -/
theorem State.onReport_failExchange {e : Exchange} (he : s.exchange = some e) (hp : s.bus.activity ≠ .pulsing) {w : Bool}
    (hw : w = true) (o : ExchangeOutcome) : (s.onReport w fun e => s.failExchange e o) = s.failExchange e o :=
  State.onReport_undecided he hw (State.failExchange_idle hp e o)

/-- A NAK beyond the frame limit is FRAME-ERROR (R10, R11, R12). -/
theorem State.takeNak_exceeding (e : Exchange) (h : s.settings.frameLimit.toNat < s.bus.nakCount + 1) :
    s.takeNak e = s.failExchange e .frameError := by
  simp [State.takeNak, BusUnit.nakExceeds, h]

theorem State.onReport_takeNak_exceeding {e : Exchange} (he : s.exchange = some e) (hp : s.bus.activity ≠ .pulsing)
    {w : Bool} (hw : w = true) (h : s.settings.frameLimit.toNat < s.bus.nakCount + 1) :
    (s.onReport w fun e => s.takeNak e) = s.failExchange e .frameError := by
  rw [← State.takeNak_exceeding e h]
  refine State.onReport_undecided he hw fun hq => State.failExchange_idle hp e .frameError ?_
  rwa [State.takeNak_exceeding e h] at hq

end Failure

end Sys2Proof.Machine

section
open Sys2Proof.Machine

/-- Settles O36: each failure report is `State.failExchange` of the exchange in progress. -/
theorem failureStartsCut : Obligations.FailureStartsCut := by
  intro s e j x rest c o he hp hc
  have hexec : exec c s = .next (s.failExchange e o) := by
    rcases hc with ⟨rfl, ha, hn, rfl⟩ | ⟨rfl, ha, hn, rfl⟩ | ⟨rfl, ht, rfl⟩ | ⟨rfl, ht, rfl⟩ |
      ⟨rfl, ha, hk, rfl⟩ <;>
      refine congrArg Host.Outcome.next ?_
    · exact State.onReport_takeNak_exceeding he hp (by simpa using ha) hn
    · exact State.onReport_takeNak_exceeding he hp (by simpa using ha) hn
    · exact State.onReport_failExchange he hp ht _
    · exact State.onReport_failExchange he hp ht _
    · refine (State.onReport_undecided he (by simp [ha]) fun hq => State.failExchange_idle hp e .turnError ?_).trans ?_
      · rwa [if_pos hk] at hq
      · rw [if_pos hk]
  have hframing : o.framing = true ↔ o ≠ .turnError := by
    rcases hc with ⟨-, -, -, rfl⟩ | ⟨-, -, -, rfl⟩ | ⟨-, -, rfl⟩ | ⟨-, -, rfl⟩ | ⟨-, -, -, rfl⟩ <;> decide
  refine ⟨s.failExchange e o, hexec, ?_, ?_, ?_, ?_⟩ <;> rw [State.failExchange_eq hp]
  · simp only [Exchange.failed, Exchange.inTestRun, Bool.and_eq_true, beq_iff_eq, hframing]
  · intro h
    rw [State.failureReports_of_none (h.imp_right fun ho => by simpa [ho] using hframing)]
    exact ⟨rfl, rfl⟩
  · intro hk
    rw [State.putBackByte_of_not_put hk, State.failureReports_eq]
  · intro hk hj ha
    have hact := congrArg BusView.active (s.busView_failureReports e o)
    rw [State.putBackByte_links hk (by rw [State.failureReports_eq, hj]) (hact.trans (by simp [ha]))]
    rw [State.failureReports_eq]
    rfl

end

/-! # The arbiter starts a job (R90, R93, R99 to R110) -/

namespace Sys2Proof.Machine

/-! ### The decision that names the head job -/

section Start
variable {s : State} {j : Job}

theorem State.namedStart_job (h : s.JobMayStart j) : s.namedStart = some .job := by
  obtain ⟨-, hj, hturn, -⟩ := h
  obtain ⟨rest, hj⟩ : ∃ rest, s.jobs = j :: rest := List.head?_eq_some_iff.mp hj
  rcases hturn with ht | ht | ht | ht <;> simp [State.namedStart, ht, hj]

theorem State.arbitrate_of_not_idle (fuel : Nat) {t : State} (h : t.seq.state ≠ .idle) : State.arbitrate fuel t = t := by
  cases fuel with
  | zero => rfl
  | succ fuel => simp [State.arbitrate, h]

/-- A decision that names a start, with a slot free, carries it out and decides again (R90, R92). -/
theorem State.decide_of_named {w : Start} (hidle : s.seq.state = .idle) (hn : s.namedStart = some w)
    (hslots : s.events.held.length + s.events.reserved.length < 16) :
    s.decide = State.arbitrate (s.jobs.length + 1) ((s.setSeq { s.seq with stall := false }).carryOut w) := by
  have hfree : s.freeSlots ≠ 0 := by simp only [State.freeSlots, Config.eventSlots]; omega
  rw [State.decide, State.arbitrate, if_pos hidle, hn]
  exact if_neg hfree

/-- The arbiter starts the head job; with the sequencer not Idle after the start, that is the whole decision. -/
theorem State.decide_job (h : s.JobMayStart j) {t : State}
    (ht : (s.setSeq { s.seq with stall := false }).startJob = t) (hq : t.seq.state ≠ .idle) : s.decide = t := by
  have hnamed := State.namedStart_job h
  obtain ⟨hidle, -, -, hslots⟩ := h
  rw [State.decide_of_named hidle hnamed hslots, State.carryOut, ht, State.arbitrate_of_not_idle _ hq]

/-- The start of an OPEN, with what every start does done (R93). -/
theorem State.startJob_open (hj : s.jobs.head? = some j) (hk : j.kind = .openLink) :
    (s.setSeq { s.seq with stall := false }).startJob = s.afterStart.startOpen j := by
  obtain ⟨rest, hj⟩ := List.head?_eq_some_iff.mp hj
  simp [State.startJob, hj, hk]
  rfl

theorem State.startJob_shut (hj : s.jobs.head? = some j) (hk : j.kind = .shut) :
    (s.setSeq { s.seq with stall := false }).startJob = s.afterStart.startShut j := by
  obtain ⟨rest, hj⟩ := List.head?_eq_some_iff.mp hj
  simp [State.startJob, hj, hk]
  rfl

theorem State.startJob_exchange (hj : s.jobs.head? = some j)
    (hk : j.kind ≠ .openLink ∧ j.kind ≠ .shut ∧ j.kind ≠ .busReset) :
    (s.setSeq { s.seq with stall := false }).startJob = s.afterStart.startExchange false := by
  obtain ⟨rest, hj⟩ := List.head?_eq_some_iff.mp hj
  obtain ⟨h1, h2, h3⟩ := hk
  cases hk : j.kind <;> simp [State.startJob, hj, hk] at h1 h2 h3 ⊢ <;> rfl

theorem State.startJob_busReset (hj : s.jobs.head? = some j) (hk : j.kind = .busReset) :
    (s.setSeq { s.seq with stall := false }).startJob =
      State.requestBus { s.afterStart with
        seq := { s.seq with state := .resetting, stall := false, jobTurn := false } } .pulse := by
  obtain ⟨rest, hj⟩ := List.head?_eq_some_iff.mp hj
  simp [State.startJob, hj, hk]
  rfl

theorem State.afterStart_activeJob (hj : s.jobs.head? = some j) :
    s.afterStart.activeJob = some (j, JobContext.fresh) := by
  obtain ⟨rest, hj⟩ := List.head?_eq_some_iff.mp hj
  simp [State.activeJob, State.afterStart, hj]

end Start

/-! ### The start of an exchange -/

section Begin
variable {s : State}

/-- An exchange begins on a Free bus unit: its header request enters Clearing at once (R2, R15, R20). -/
theorem State.beginExchange_of_free (h : s.bus.activity = .free) (e : Exchange) :
    s.beginExchange e = { s with exchange := some e, bus := s.bus.inClearing s.settings } := by
  simp only [State.beginExchange, State.requestBus, State.setExchange_bus, State.setExchange_settings,
    BusUnit.request_of_free _ _ _ h]
  rfl

theorem State.clockedPace_eq (s : State) (i : StationIndex) :
    (s.station i).clockedPace s.settings.clocked = s.mayClock i := by
  unfold Station.clockedPace State.mayClock
  cases s.settings.clocked <;> simp

/-- A PUT or TAKE exchange with a length given as a number. -/
theorem State.dataExchange_eq {k : ExchangeKind} {l : Link} {d : Dir} {n : Nat} {r : Exchange}
    (hr : r = Exchange.fresh k l.station l.channel d (s.mayClock l.station) r.length) (hn : r.length.toNat = n) :
    s.dataExchange k l d n = r := by
  rw [State.dataExchange, State.clockedPace_eq, hr, ← hn, BitVec.ofNat_toNat, BitVec.setWidth_eq]

theorem Link.putClaim_none {l : Link} (hs : l.state = .opened) (hd : l.dir = .output) : l.putClaim = none := by
  simp [Link.putClaim, hs, hd]

theorem Link.takeClaim_none {l : Link} (hs : l.state = .opened) (hd : l.dir = .input)
    (hm : (l.ring.filter (·.marked)).length < 8) (hr : l.ring.length < 256 * l.pages.length) : l.takeClaim = none := by
  have hm' : ¬ Config.markLimit ≤ l.marks := by
    rw [Link.marks, List.countP_eq_length_filter, Config.markLimit]; omega
  have hr' : l.space ≠ 0 := by simp only [Link.space, Link.capacity, Link.count, Config.pageBytes]; omega
  simp [Link.takeClaim, hs, hd, hm', hr']

/-- The exchange a job begins, as `State.NextExchange` gives it, begins. -/
theorem State.startExchange_of_next {j : Job} {x : JobContext} {r : Exchange} (hact : s.activeJob = some (j, x))
    (h : s.NextExchange j x r) (later : Bool) : s.startExchange later = s.beginExchange r := by
  unfold State.startExchange
  rw [hact]
  rcases h with ⟨hk, hr⟩ | ⟨hk, hr⟩ | ⟨hk, hs, hd, hne, hr, hn⟩ | ⟨hk, hs, hd, hm, hlen, hr, hn⟩ |
    ⟨hk, hr⟩ | ⟨hk, hr⟩ | ⟨hk, hr⟩ <;> simp only [hk]
  case inr.inr.inl =>
    have hc : (s.link j.linkIndex).count ≠ 0 := by simpa [Link.count] using hne
    simp only [State.startPut, Link.putClaim_none hs hd, hc, if_false]
    exact congrArg s.beginExchange (State.dataExchange_eq hr hn)
  case inr.inr.inr.inl =>
    simp only [State.startTake, Link.takeClaim_none hs hd hm hlen]
    exact congrArg s.beginExchange (State.dataExchange_eq hr hn)
  all_goals rw [hr]; rfl

end Begin

/-! ### The claims of an OPEN and of a SHUT (R63, R65) -/

section Claims
variable {s : State} {j : Job}

/-- An open claim on a Closed link, with no other link at the endpoint and pages enough, passes (R63, R60). -/
theorem State.openClaim_ok {i : LinkIndex} {st : StationIndex} {ch : BitVec 3} {d : Dir} {n : Nat}
    (hs : (s.link i).state = .closed) (hn : n ≤ s.freePages.length)
    (hend : ∀ k : LinkIndex, k ≠ i → (s.link k).state = .closed ∨
      ¬((s.link k).station = st ∧ (s.link k).channel = ch ∧ (s.link k).dir = d)) :
    s.openClaim i st ch d n =
      .ok ((s.setLink i ((s.link i).openWith st ch d (s.freePages.take n))).setFreePages (s.freePages.drop n)) := by
  have hfree : s.endpointFree i st ch d = true := by
    refine List.all_eq_true.mpr fun k _ => ?_
    by_cases hk : k = i
    · simp [hk]
    · rcases hend k hk with h | h
      · simp [Link.binds, Link.bound, h]
      · simp only [Link.binds, Bool.or_eq_true, Bool.not_eq_true', Bool.and_eq_false_iff, beq_eq_false_iff_ne]
        tauto
  simp [State.openClaim, Link.bound, hs, hfree, Nat.not_lt.mpr hn]

@[simp] theorem State.link_setFreePages (p : List Page) (i : LinkIndex) : (s.setFreePages p).link i = s.link i := rfl

theorem State.startOpen_of_claim {t : State}
    (h : s.openClaim j.linkIndex j.stationIndex j.channel j.dir j.pages.toNat = .ok t) :
    s.startOpen j = t.startExchange false := by
  rw [State.startOpen, h]

/-- The end of a run leaves every link its endpoint. -/
theorem State.afterRunEnd_endpoint (c : Chan) (r : StopReason) (i : LinkIndex) :
    ((s.afterRunEnd c r).link i).station = (s.link i).station ∧
      ((s.afterRunEnd c r).link i).channel = (s.link i).channel ∧
      ((s.afterRunEnd c r).link i).dir = (s.link i).dir := by
  by_cases h : i = (s.chan c).link
  · subst h; simp [State.afterRunEnd, State.link]
  · have h' : (s.chan c).link.val ≠ i.val := fun g => h (Fin.ext g.symm)
    simp [State.afterRunEnd, State.link, Vector.getElem_set_ne, h']

/-- The SHUT of an Open link with no channel bound to it (R65). -/
theorem State.shutOpenLink_of_unbound {i : LinkIndex} (h : (s.link i).holder = none) :
    s.shutOpenLink i = { s with links := s.links.set i { s.link i with state := .shutting, holder := none } } := by
  simp [State.shutOpenLink, h, State.setLink, State.setLinks]

/-- The SHUT of an Open link stops a channel bound to it (R65, R166). -/
theorem State.shutOpenLink_of_bound {i : LinkIndex} {c : Chan} (h : (s.link i).holder = some c) :
    s.shutOpenLink i =
      State.stopChannel { s with links := s.links.set i { s.link i with state := .shutting, holder := none } } c .shut := by
  simp [State.shutOpenLink, h, State.setLink, State.setLinks]

/-- An outside stop of a Running channel with no byte move in progress ends its run (R166, R167). -/
theorem State.stopChannel_of_still {c : Chan} (hr : (s.chan c).running = true) (hm : s.moving c = false) (r : StopReason) :
    s.stopChannel c r = s.afterRunEnd c r := by
  rw [State.stopChannel, if_pos hr, hm]
  exact s.endRun_eq_afterRunEnd c r

/-- An outside stop of a channel whose byte move is in progress waits (R166). -/
theorem State.stopChannel_of_moving {c : Chan} (hr : (s.chan c).running = true) (hm : s.moving c = true) (r : StopReason) :
    s.stopChannel c r =
      { s with mover := s.mover.setChan c { s.chan c with stopPending := some ((s.chan c).stopPending.getD r) } } := by
  simp [State.stopChannel, hr, hm, State.setChan, State.setMover]

/-- The SHUT exchange begins for the link's endpoint (R100). -/
theorem State.startExchange_shut {x : JobContext} {l : Link} (hact : s.activeJob = some (j, x)) (hk : j.kind = .shut)
    (hbus : s.bus.activity = .free) (hend : (s.link j.linkIndex).station = l.station ∧
      (s.link j.linkIndex).channel = l.channel ∧ (s.link j.linkIndex).dir = l.dir) (later : Bool) :
    s.startExchange later = { s with
      exchange := some (Exchange.fresh .shut l.station l.channel l.dir false 0), bus := s.bus.inClearing s.settings } := by
  obtain ⟨hst, hch, hd⟩ := hend
  rw [State.startExchange_of_next hact (.inr (.inl ⟨hk, rfl⟩)), State.beginExchange_of_free hbus, hst, hch, hd]

end Claims

end Sys2Proof.Machine

section
open Sys2Proof Sys2Proof.Machine

/-- Settles O22: the decision names the head job, and its kind's start leaves the sequencer busy. -/
theorem arbiterStartsJob : Obligations.ArbiterStartsJob := by
  refine ⟨?visitor, ?opener, ?mover, ?shut⟩
  case visitor =>
    intro s j h hbus hk
    have hj : s.jobs.head? = some j := h.2.1
    have next : s.afterStart.NextExchange j JobContext.fresh (Exchange.fresh (if j.kind = .probe then .probe else .status)
        (if j.kind = .census then 0 else j.stationIndex) 0 .output false
        (if j.kind = .probe ∧ s.settings.clocked = true then 2 else 0)) := by
      rcases hk with hk | hk | hk
      · exact .inr (.inr (.inr (.inr (.inl ⟨hk, by simp [hk]⟩))))
      · exact .inr (.inr (.inr (.inr (.inr (.inl ⟨hk, by simp [hk]; rfl⟩)))))
      · exact .inr (.inr (.inr (.inr (.inr (.inr ⟨hk, by simp [hk]; rfl⟩)))))
    refine State.decide_job h ?_ (by simp [State.afterStart])
    rw [State.startJob_exchange hj (by rcases hk with hk | hk | hk <;> simp [hk]),
      State.startExchange_of_next (State.afterStart_activeJob hj) next, State.beginExchange_of_free (by exact hbus)]
    rfl
  case opener =>
    intro s j rest hidle hbus hjobs hturn hslots hk hclosed hpages hend
    have hj : s.jobs.head? = some j := by rw [hjobs]; rfl
    have h : s.JobMayStart j := ⟨hidle, hj, hturn.imp_right .inl, hslots⟩
    refine State.decide_job h ?_ (by simp)
    rw [State.startJob_open hj hk, State.startOpen_of_claim (State.openClaim_ok (s := s.afterStart) hclosed hpages hend),
      State.startExchange_of_next (by exact State.afterStart_activeJob hj)
        (r := Exchange.fresh .openChannel j.stationIndex j.channel j.dir false 0) (.inl ⟨hk, ?_⟩),
      State.beginExchange_of_free (by exact hbus)]
    · rfl
    · simp [Link.openWith]
  case mover =>
    intro s j r h hbus
    have hj : s.jobs.head? = some j := h.2.1
    constructor
    · intro hk hr
      refine State.decide_job h ?_ (by simp [State.afterStart])
      rw [State.startJob_exchange hj (by rcases hk with hk | hk <;> simp [hk]),
        State.startExchange_of_next (State.afterStart_activeJob hj) hr, State.beginExchange_of_free (by exact hbus)]
      rfl
    · intro hk
      refine State.decide_job h ?_ (by simp)
      rw [State.startJob_busReset hj hk, State.requestBus, BusUnit.request_of_free _ _ _ (by exact hbus)]
      rfl
  case shut =>
    intro s base j c h hbus hk hopen hbase
    have hj : s.jobs.head? = some j := h.2.1
    subst hbase
    have hact := State.afterStart_activeJob hj
    have start : (s.setSeq { s.seq with stall := false }).startJob =
        (s.afterStart.shutOpenLink j.linkIndex).startExchange false := by
      rw [State.startJob_shut hj hk, State.startShut, show (s.afterStart.link j.linkIndex).state = .opened from hopen]
    let shutting : State := { s.afterStart with
      links := s.links.set j.linkIndex { s.link j.linkIndex with state := .shutting, holder := none } }
    have hlink : shutting.link j.linkIndex = { s.link j.linkIndex with state := .shutting, holder := none } :=
      State.link_setLink_same s.afterStart _ _
    have hend : (shutting.link j.linkIndex).station = (s.link j.linkIndex).station ∧
        (shutting.link j.linkIndex).channel = (s.link j.linkIndex).channel ∧
        (shutting.link j.linkIndex).dir = (s.link j.linkIndex).dir := by rw [hlink]; exact ⟨rfl, rfl, rfl⟩
    constructor
    · intro hholder
      refine State.decide_job h ?_ (by simp [State.afterStart])
      rw [start, State.shutOpenLink_of_unbound (by exact hholder)]
      exact State.startExchange_shut (s := shutting) (l := s.link j.linkIndex) hact hk hbus hend false
    · intro hholder hrun
      have bound : s.afterStart.shutOpenLink j.linkIndex = shutting.stopChannel c .shut :=
        State.shutOpenLink_of_bound (by exact hholder)
      constructor
      · intro hm
        refine State.decide_job h ?_ (by simp [State.afterStart, State.afterRunEnd])
        rw [start, bound, State.stopChannel_of_still (by exact hrun) (by exact hm)]
        obtain ⟨hst, hch, hd⟩ := State.afterRunEnd_endpoint (s := shutting) c .shut j.linkIndex
        exact State.startExchange_shut (s := shutting.afterRunEnd c .shut) (l := s.link j.linkIndex) hact hk hbus
          ⟨hst.trans hend.1, hch.trans hend.2.1, hd.trans hend.2.2⟩ false
      · intro hm
        refine State.decide_job h ?_ (by simp [State.afterStart])
        rw [start, bound, State.stopChannel_of_moving (by exact hrun) (by exact hm)]
        exact State.startExchange_shut (s := { shutting with
            mover := s.mover.setChan c { s.chan c with stopPending := some ((s.chan c).stopPending.getD .shut) } })
          (l := s.link j.linkIndex) hact hk hbus hend false

end

/-! # SOFT-RESET (R53, R69, R116, R130, R141, R154, R168, R175) -/

namespace Sys2Proof.Machine

/-! ### The pulse's effects on tables whose links are all Closed -/

section Reset
variable {s : State}

theorem Link.busReset_of_closed {l : Link} (h : l.state = .closed) : l.busReset = l := by
  simp [Link.busReset, h]

theorem mapTable_eq_self {α : Type} {n : Nat} {f : α → α} {v : Vector α n} (h : ∀ i : Fin n, f v[i] = v[i]) :
    mapTable f v = v :=
  Vector.ext fun i hi => by rw [mapTable_getElem]; exact h ⟨i, hi⟩

/-- A bus reset finds no link to lose while every link is Closed (R68). -/
theorem State.loseLinks_of_closed (h : ∀ i, (s.link i).state = .closed) : s.loseLinks = s := by
  have hl : mapTable Link.busReset s.links = s.links := mapTable_eq_self fun i => Link.busReset_of_closed (h i)
  have hn (c : Chan) : s.losesLink c = false := by simp [State.losesLink, h]
  simp [State.loseLinks, hl, hn, State.setLinks]

/-- Every link is Closed after SOFT-RESET, with no holder (R69). -/
theorem State.softResetBlocks_link (s : State) (i : LinkIndex) :
    s.softResetBlocks.link i = if (s.link i).bound then (s.link i).closed else { s.link i with holder := none } := by
  rw [State.softResetBlocks_eq]
  exact mapTable_getElem ..

theorem State.softResetBlocks_closed (s : State) (i : LinkIndex) : (s.softResetBlocks.link i).state = .closed := by
  rw [State.softResetBlocks_link]
  split
  · rfl
  · next h => simpa [Link.bound] using h

/-- The bus unit's record after SOFT-RESET: Free as it was, in Free after a pulse, and else in a CUT (R19). -/
def State.busAfterSoftReset (s : State) : BusUnit :=
  match s.bus.activity with
  | .free => s.bus
  | .pulsing => s.bus.toFree s.settings
  | _ => s.bus.inCut

/-- SOFT-RESET before the decision of an Idle arbiter: its blocks, the exchange cut, the bus and the sequencer (R116). -/
def State.softResetDone (s : State) : State :=
  { s.softResetBlocks with
    exchange := s.exchange.map Exchange.cut
    bus := s.busAfterSoftReset
    seq := { s.softResetBlocks.seq with state := s.softResetSeq }
    stations := if s.bus.activity = .pulsing then Vector.replicate Config.stationCount Station.reset
      else s.softResetBlocks.stations
    window := { s.softResetBlocks.window with cmdErr := false } }

/-- The latch is judged by SOFT-RESET already, so a pulse that ends then leaves the attention unit as it is (log 28). -/
theorem State.softResetBlocks_attention (s : State) :
    { s.softResetBlocks.attention with
      latch := s.softResetBlocks.pins.askLine && s.softResetBlocks.settings.scan, mask := false } =
      s.softResetBlocks.attention := by
  have hask : s.abandonMove.pins.askLine = s.pins.askLine := by unfold State.abandonMove; split <;> rfl
  rw [State.softResetBlocks_eq]
  simp only [hask]

/-- A pulse that ends with every link Closed and no scan: the entries are reset (R54), and the latch is judged anew. -/
theorem State.resetByPulse_of_closed (h : ∀ i, (s.link i).state = .closed) (hs : s.attention.scan = none) :
    s.resetByPulse = { s with
      stations := Vector.replicate Config.stationCount Station.reset
      attention := { s.attention with latch := s.pins.askLine && s.settings.scan, mask := false } } := by
  rw [State.resetByPulse, State.loseLinks_of_closed (by exact h), State.clearAttention_of_no_scan (by exact hs)]
  rfl

theorem State.softReset_eq_decide (s : State) : s.softReset = s.softResetDone.decide := by
  refine congrArg State.decide ?_
  have hclosed := s.softResetBlocks_closed
  have hlatch := s.softResetBlocks_attention
  have hscan : s.softResetBlocks.attention.scan = none := by rw [State.softResetBlocks_eq]
  have hbus : s.softResetBlocks.bus = s.bus := by rw [State.softResetBlocks_eq]
  have hset : s.softResetBlocks.settings = s.settings := by rw [State.softResetBlocks_eq]
  unfold State.softResetDone State.busAfterSoftReset
  generalize s.softResetBlocks = b at *
  cases ha : s.bus.activity
  case free =>
    rw [State.softResetBus_of_free (by rw [State.setExchange_bus, hbus, ha])]
    simp [State.taken_eq, State.setSeqState, State.setSeq, State.setExchange, hbus]
  case pulsing =>
    rw [State.softResetBus_of_pulsing (by rw [State.setExchange_bus, hbus, ha]),
      State.resetByPulse_of_closed (by exact hclosed) (by exact hscan)]
    simp [State.taken_eq, State.setSeqState, State.setSeq, State.setExchange, State.busToFree, State.setBus, hbus, hset]
    rw [← hset]; exact hlatch
  all_goals
    have busy : s.bus.activity ≠ .free ∧ s.bus.activity ≠ .pulsing := by simp [ha]
    rw [State.softResetBus_of_busy (by rw [State.setExchange_bus, hbus]; exact busy), State.startCut,
      State.setExchange_bus, hbus, BusUnit.startCut_of_not_pulsing _ busy.2]
    simp [State.taken_eq, State.setSeqState, State.setSeq, State.setExchange, State.setBus]

/-- The state SOFT-RESET leaves for the arbiter, field by field. -/
theorem State.softResetDone_eq (s : State) : s.softResetDone = { s with
    bus := s.busAfterSoftReset
    exchange := s.exchange.map Exchange.cut
    stations := if s.bus.activity = .pulsing then Vector.replicate Config.stationCount Station.reset
      else mapTable Station.softReset s.stations
    links := mapTable (fun l => if l.bound then l.closed else { l with holder := none }) s.links
    freePages := allPages
    jobs := []
    active := none
    seq := { s.seq with state := s.softResetSeq, jobTurn := false, stall := false }
    attention := { s.attention with latch := s.pins.askLine && s.settings.scan, mask := false, scan := none }
    events := { held := [], reserved := [], qroom := false }
    port := { s.port with last := false, underrun := false, overrun := false, denied := false }
    mover := s.mover.softReset
    window := { s.window with cmdErr := false }
    pins := s.abandonMove.pins } := by
  rw [State.softResetDone, State.softResetBlocks_eq]

end Reset

/-! ### The decision after SOFT-RESET: no job is left to start -/

section Quiet
variable {s : State}

/-- An arbiter with nothing to start and no stall to clear does nothing (R90). -/
theorem State.decide_of_quiet (hn : s.namedStart = none) (hs : s.seq.stall = false) : s.decide = s := by
  unfold State.decide State.arbitrate
  split
  · rw [hn]; simp [State.setSeq, ← hs]
  · rfl

theorem State.namedStart_of_quiet (hj : s.jobs = []) (hl : s.attention.latch = false) : s.namedStart = none := by
  simp [State.namedStart, hj, hl]

/-- What a decision that starts no job can change: the bus unit, the exchange, the sequencer, the events, and the
attention unit but for its rotation start. -/
structure State.ScanFrame (s t : State) : Prop where
  whole : t = { s with
    bus := t.bus, exchange := t.exchange, seq := t.seq, events := t.events, attention := t.attention }
  rotation : t.attention.rotation = s.attention.rotation
  qroom : t.events.qroom = s.events.qroom

theorem State.ScanFrame.refl (s : State) : s.ScanFrame s := ⟨rfl, rfl, rfl⟩

theorem State.ScanFrame.after {t u : State} (g : t.ScanFrame u) (h : s.ScanFrame t) : s.ScanFrame u := by
  obtain ⟨ht, hr, hq⟩ := h
  obtain ⟨gu, gr, gq⟩ := g
  refine ⟨?_, gr.trans hr, gq.trans hq⟩
  rw [gu, ht]

theorem State.judgeLatch_scanFrame (s : State) : s.ScanFrame s.judgeLatch := by
  unfold State.judgeLatch
  split
  · exact ⟨rfl, rfl, rfl⟩
  · exact .refl s

theorem State.endScanUnclaimed_scanFrame (s : State) (x : Scan) : s.ScanFrame (s.endScanUnclaimed x) := by
  unfold State.endScanUnclaimed State.leaveScan
  exact (State.judgeLatch_scanFrame _).after ⟨rfl, rfl, rfl⟩

theorem State.beginVisit_scanFrame (s : State) (x : Scan) (i : StationIndex) : s.ScanFrame (s.beginVisit x i) :=
  ⟨rfl, rfl, rfl⟩

theorem State.startScan_scanFrame (s : State) : s.ScanFrame s.startScan := by
  unfold State.startScan
  dsimp only
  split
  · exact (State.beginVisit_scanFrame _ _ _).after ⟨rfl, rfl, rfl⟩
  · exact (State.endScanUnclaimed_scanFrame _ _).after ⟨rfl, rfl, rfl⟩

/-- The arbiter with no job queued can start nothing but a scan (R90). -/
theorem State.arbitrate_scanFrame (fuel : Nat) (hj : s.jobs = []) : s.ScanFrame (State.arbitrate fuel s) := by
  induction fuel generalizing s with
  | zero => exact .refl s
  | succ fuel ih =>
    unfold State.arbitrate
    split
    · split
      · exact ⟨rfl, rfl, rfl⟩
      next w hw =>
        split
        · exact ⟨rfl, rfl, rfl⟩
        · have hscan : w = .scan := by
            simp [State.namedStart, hj] at hw
            exact hw.2.symm
          subst hscan
          have frame : s.ScanFrame ((s.setSeq { s.seq with stall := false }).carryOut .scan) :=
            (State.startScan_scanFrame (s.setSeq _)).after ⟨rfl, rfl, rfl⟩
          refine (ih ?_).after frame
          rw [frame.whole]; exact hj
    · exact .refl s

theorem State.decide_scanFrame (hj : s.jobs = []) : s.ScanFrame s.decide := State.arbitrate_scanFrame _ hj

/-- A Closed link loses its holder at SOFT-RESET, and any other is closed (R69). -/
theorem Link.softReset_eq (l : Link) :
    (if l.bound then l.closed else { l with holder := none }) =
      if l.state = .closed then { l with holder := none } else { l with
        state := .closed, pages := [], start := 0, ring := [], inFlight := false, messageOpen := false, holder := none } := by
  cases hl : l.state <;> simp [Link.bound, Link.closed, hl]

/-- The host access of an abandoned move is finished on the host bus (R168). -/
theorem State.abandonMove_pins (s : State) : s.abandonMove.pins = { s.pins with
    hostWrite := (match s.mover.move with
      | some { chan := c, popped := some cell } => some { addr := (s.chan c).addr, data := cell.byte }
      | _ => s.pins.hostWrite) } := by
  unfold State.abandonMove
  split <;> simp_all [State.setPins]

/-- The law of the station bus gives the bus unit after SOFT-RESET: in a CUT with an exchange, and else in Free (R19). -/
theorem State.busAfterSoftReset_of_busLaw (h : s.BusLaw) :
    s.busAfterSoftReset =
      if s.exchange.isSome then s.bus.inCut else if s.bus.activity = .pulsing then s.bus.inFree else s.bus := by
  obtain ⟨hw, sq⟩ := s.busLaw_iff.mp h
  unfold State.busAfterSoftReset
  cases he : s.exchange with
  | some e =>
    have busy := Phase.fits_busy (sq.fits he).1
    rw [State.busView_activity] at busy
    cases ha : s.bus.activity <;> simp_all
  | none =>
    rcases sq.free_or_pulsing he with ha | ha <;> rw [State.busView_activity] at ha <;> rw [ha]
    · rfl
    · exact BusUnit.toFree_of_nothing_waiting _ _ hw

end Quiet

end Sys2Proof.Machine

section
open Sys2Proof Sys2Proof.Machine

/-- Settles O49: SOFT-RESET is `State.softResetDone` and a decision that finds no job to start. -/
theorem softResetResult : Obligations.SoftResetResult := by
  have exec_eq {s : State} (hs : s.windowShut = false) : exec .softReset s = .next s.softResetDone.decide :=
    (onWindow_open (·.softReset) hs).trans (congrArg _ s.softReset_eq_decide)
  have nojobs (s : State) : s.softResetDone.jobs = [] := congrArg State.jobs s.softResetDone_eq
  have quiet {s : State} (ha : s.pins.askLine = false) : s.softResetDone.decide = s.softResetDone :=
    State.decide_of_quiet
      (State.namedStart_of_quiet (nojobs s) (by rw [State.softResetDone_eq]; simp [ha]))
      (congrArg (·.seq.stall) s.softResetDone_eq)
  refine ⟨?kept, ?bus, ?whole⟩
  case kept =>
    intro s hs
    have frame := State.decide_scanFrame (nojobs s)
    have whole := frame.whole
    have done := s.softResetDone_eq
    refine ⟨_, exec_eq hs, (congrArg State.jobs whole).trans (nojobs s), ?_, ?_, ?_, ?_, ?_, ?_, ?_, ?_, fun i => ?_,
      fun hp i => ?_, fun ha => ?_⟩
    · exact (congrArg State.active whole).trans (congrArg State.active done)
    · exact (congrArg State.freePages whole).trans (congrArg State.freePages done)
    · exact (congrArg State.settings whole).trans (by rw [done])
    · exact (congrArg State.window whole).trans (congrArg State.window done)
    · exact (congrArg State.port whole).trans (congrArg State.port done)
    · exact (congrArg State.mover whole).trans (congrArg State.mover done)
    · exact frame.qroom.trans (congrArg (·.events.qroom) done)
    · exact frame.rotation.trans (congrArg (·.attention.rotation) done)
    · have hlink : s.softResetDone.decide.link i = _ :=
        (congrArg (·.link i) whole).trans (s.softResetBlocks_link i)
      rw [hlink, Link.softReset_eq]
      by_cases hc : (s.link i).state = .closed <;> simp [hc]
    · have hstation : s.softResetDone.decide.station i = s.softResetDone.station i := congrArg (·.station i) whole
      rw [hstation, State.station, done, if_neg hp]
      exact mapTable_getElem ..
    · rw [quiet ha]
      exact ⟨congrArg (·.events.held) done, congrArg (·.events.reserved) done⟩
  case bus =>
    intro s e hs hlaw hask
    refine ⟨_, exec_eq hs, ?_⟩
    obtain ⟨-, sq⟩ := s.busLaw_iff.mp hlaw
    rw [quiet hask]
    have hbus : s.softResetDone.bus = _ := State.busAfterSoftReset_of_busLaw hlaw
    have hseq : s.softResetDone.seq.state = _ := State.softResetSeq_of_seqLaw sq
    have hex : s.softResetDone.exchange = s.exchange.map Exchange.cut := rfl
    refine ⟨fun he => ?_, fun hq => ?_, fun he => ?_⟩
    · simp [hbus, hseq, hex, he, Exchange.cut]
    · rw [BusView.SeqLaw, State.busView_seq, hq] at sq
      obtain ⟨-, -, -, he, ha⟩ := sq
      rw [State.busView_exchange] at he
      rw [State.busView_activity] at ha
      refine ⟨by simp [hseq, he], by simp [hbus, he, ha, BusUnit.inFree], fun i => ?_⟩
      simp [State.station, State.softResetDone, ha]
    · rcases sq.free_or_pulsing he with ha | ha <;> rw [State.busView_activity] at ha <;>
        simp [hbus, hseq, hex, he, ha, BusUnit.inFree]
  case whole =>
    intro s hs hlaw
    have hseq := State.softResetSeq_of_seqLaw (s.busLaw_iff.mp hlaw).2
    have hlinks := funext Link.softReset_eq
    rw [exec_eq hs, State.softResetDone_eq, State.busAfterSoftReset_of_busLaw hlaw, hseq,
      State.abandonMove_pins, hlinks]
    rfl

end

/-! # The ends of jobs whose exchange failed (R94, R101, R114, R115) -/

namespace Sys2Proof.Machine

/-! ### The completion event and the counts (R94, R114) -/

/-- The number of stations a census recorded present. -/
theorem censusCount_eq (r : BitVec 14) : censusCount r = (List.finRange 14).countP fun i => r.getLsbD i.val := by
  have ones (n : Nat) : onesBelow r.toNat n = ((List.range n).countP fun i => r.getLsbD i) := by
    induction n with
    | zero => rfl
    | succ n ih =>
      rw [onesBelow, ih, List.range_succ, List.countP_append]
      simp [bitVal, BitVec.getLsbD, List.countP_cons]
  rw [censusCount, ones, ← List.map_coe_finRange_eq_range, List.countP_map]
  rfl

/-- The completion event of a job is the record that R114 and R179 spell out. -/
theorem Job.event_eq_endRecord (j : Job) (x : JobContext) (r : JobResult) (held : Nat) :
    j.event x r held = j.endRecord x r held := by
  have flags : x.flagByte = BitVec.ofNat 8 (bitVal x.msgEnd + 2 * bitVal x.emptyAnswer + 4 * bitVal x.demoted +
      8 * bitVal x.localClose + 16 * bitVal x.testClk) := by
    rw [JobContext.flagByte, byteOfBits]
    congr 1
    have : bitVal false = 0 := rfl
    omega
  have high : ((x.census >>> 8).setWidth 8 : Byte) = BitVec.ofNat 8 (x.census.toNat / 256) :=
    BitVec.eq_of_toNat_eq (by simp [Nat.shiftRight_eq_div_pow])
  cases hk : j.kind
  case census =>
    simp [Job.event, Job.endRecord, Job.eventCount, Job.eventDetail, Job.eventFlags, hk, censusCount_eq, high]
  case probe =>
    cases hp : x.probe <;>
      simp [Job.event, Job.endRecord, Job.eventCount, Job.eventDetail, Job.eventFlags, hk, flags, hp, ProbeDetail.code]
  all_goals simp [Job.event, Job.endRecord, Job.eventCount, Job.eventDetail, Job.eventFlags, hk, flags]

/-- The counts of an ended exchange reach the job context (R94). -/
theorem JobContext.absorb_eq_withExchange (x : JobContext) (e : Exchange) : x.absorb e = x.withExchange e := by
  unfold JobContext.absorb JobContext.withExchange
  cases e.statusByte <;> rcases e.testResult with _ | ⟨_ | _, _ | _⟩ <;> simp

theorem Exchange.accepted_eq (e : Exchange) : e.accepted = e.answer.any (·.code == 0) := by
  unfold Exchange.accepted
  cases e.answer with
  | none => rfl
  | some a =>
    simp only [Answer.accepts, Option.any_some]
    exact Bool.eq_iff_iff.mpr (by simp [← BitVec.toNat_inj])

/-! ### The end of the Active job, by its cleanup (R64, R66, R67, R115) -/

section JobEnd
variable {s : State} {j : Job} {x : JobContext}

theorem State.jobs_of_activeJob (h : s.activeJob = some (j, x)) : ∃ rest, s.jobs = j :: rest := by
  unfold State.activeJob at h
  split at h
  next k rest y hj _ =>
    obtain ⟨rfl, -⟩ := Prod.mk.inj (Option.some.inj h)
    exact ⟨rest, hj⟩
  next => cases h

theorem State.activeJob_eq {rest : List Job} (hj : s.jobs = j :: rest) (ha : s.active = some x) :
    s.activeJob = some (j, x) := by
  simp [State.activeJob, hj, ha]

/-- The QROOM latch is set when a job leaves a full queue (R87). -/
theorem State.setQroomOnFall_tail (hj : s.jobs ≠ []) :
    s.setQroomOnFall s.jobs.length s.jobs.tail.length =
      { s with events := { s.events with qroom := s.events.qroom || s.jobs.length == Config.jobLimit } } := by
  have hpos := List.length_pos_of_ne_nil hj
  unfold State.setQroomOnFall
  by_cases h8 : s.jobs.length = Config.jobLimit
  · have : s.jobs.tail.length < Config.jobLimit := by rw [List.length_tail, h8]; decide
    simp [h8, State.setEvents]
  · have hb : (s.jobs.length == Config.jobLimit) = false := beq_eq_false_iff_ne.mpr h8
    rw [if_neg fun h => h8 h.1, hb, Bool.or_false]

/-- The Active job leaves the queue (R87, R115). -/
theorem State.leaveQueue_eq (hj : s.jobs ≠ []) : s.leaveQueue = { s with
    jobs := s.jobs.tail
    active := none
    exchange := none
    seq := { s.seq with state := .idle }
    events := { s.events with qroom := s.events.qroom || s.jobs.length == Config.jobLimit } } := by
  rw [State.leaveQueue, State.setQroomOnFall_tail hj]
  rfl

/-- A posting in the job's own slot, and the job leaves the queue (R115). -/
theorem State.post_leaveQueue (hj : s.jobs ≠ []) (e : Event) :
    (s.post .job e).leaveQueue = s.afterJobEnd e :=
  State.leaveQueue_eq (s := s.post .job e) hj

/-- The end of a job whose cleanup posts nothing (R115). -/
theorem State.endJob_of_quiet_cleanUp (h : s.activeJob = some (j, x)) {c : Cleanup}
    {t : State} {d : Nat} (hc : s.cleanUp j.linkIndex c = (t, d)) (ht : t.events.held = s.events.held)
    (hjobs : t.jobs = s.jobs) (r : JobResult) : s.endJob r c = t.afterJobEnd (j.endRecord x r d) := by
  obtain ⟨rest, hj⟩ := State.jobs_of_activeJob h
  simp only [State.endJob, State.endJobSince, h, hc, ht, Nat.sub_self, State.postAmong_zero, Job.event_eq_endRecord]
  exact State.post_leaveQueue (by simp [hjobs, hj]) _

/-- The end of a job that leaves its link alone. -/
theorem State.endJob_keep (h : s.activeJob = some (j, x)) (r : JobResult) :
    s.endJob r .keep = s.afterJobEnd (j.endRecord x r 0) :=
  State.endJob_of_quiet_cleanUp h rfl rfl rfl r

/-- The end of an OPEN whose link is Open (R64). -/
theorem State.endJob_opened (h : s.activeJob = some (j, x)) (r : JobResult) :
    s.endJob r .opened = State.afterJobEnd
      { s with links := s.links.set j.linkIndex { s.link j.linkIndex with state := .opened } } (j.endRecord x r 0) :=
  State.endJob_of_quiet_cleanUp h rfl rfl rfl r

/-- The end of a job that closes its link, with no channel bound to it (R66, R67). -/
theorem State.endJob_close_unbound (h : s.activeJob = some (j, x))
    (hh : (s.link j.linkIndex).holder = none) (r : JobResult) (w : StopReason) :
    s.endJob r (.close w) =
      (s.afterClose j.linkIndex).afterJobEnd (j.endRecord x r (s.link j.linkIndex).ring.length) := by
  have hclose : s.cleanUp j.linkIndex (.close w) = (s.afterClose j.linkIndex, (s.link j.linkIndex).ring.length) := by
    rw [State.cleanUp, State.closeLink_of_unbound _ _ _ hh]; rfl
  exact State.endJob_of_quiet_cleanUp h hclose rfl rfl r

/-- The end of a job that closes its link, with a Running channel bound to it: the channel is stopped (R67, R166). -/
theorem State.endJob_close_bound (h : s.activeJob = some (j, x)) {c : Chan}
    (hh : (s.link j.linkIndex).holder = some c) (hr : (s.chan c).running = true) (r : JobResult) (w : StopReason) :
    (s.afterClose j.linkIndex).EndsStopping (s.endJob r (.close w)) c w
      (j.endRecord x r (s.link j.linkIndex).ring.length) := by
  have hclose : s.cleanUp j.linkIndex (.close w) =
      ((s.afterClose j.linkIndex).stopChannel c w, (s.link j.linkIndex).ring.length) := by
    rw [State.cleanUp, State.closeLink_of_bound _ _ _ _ hh]; rfl
  have hr' : ((s.afterClose j.linkIndex).chan c).running = true := hr
  obtain ⟨rest, hj⟩ := State.jobs_of_activeJob h
  cases hm : (s.afterClose j.linkIndex).moving c
  case true =>
    rw [State.stopChannel_of_moving hr' hm] at hclose
    exact .inl ⟨hm, State.endJob_of_quiet_cleanUp h hclose rfl rfl r⟩
  case false =>
    rw [State.stopChannel_of_still hr' hm] at hclose
    refine .inr ⟨hm, ?_⟩
    have hheld : ((s.afterClose j.linkIndex).afterRunEnd c w).events.held =
        s.events.held ++ [((s.afterClose j.linkIndex).chan c).stopRecord c w] := rfl
    obtain ⟨held, hmem, hpost⟩ := State.postAmong_one _ .job (j.endRecord x r (s.link j.linkIndex).ring.length) _ _ hheld
    refine ⟨held, hmem, ?_⟩
    simp only [State.endJob, State.endJobSince, h, hclose, Job.event_eq_endRecord]
    have hone : ((s.afterClose j.linkIndex).afterRunEnd c w).events.held.length - s.events.held.length = 1 := by
      rw [hheld]; simp
    rw [hone, hpost]
    exact State.leaveQueue_eq (by simp [State.afterRunEnd, State.afterClose, hj])

end JobEnd

/-! ### An exchange that failed ends its job (R94) -/

section Failed
variable {s : State} {e : Exchange} {j : Job} {x : JobContext}

/-- An outcome that ends a job's exchange for good: none of COMPLETE, BUSY and EMPTY. -/
def ExchangeOutcome.fails (o : ExchangeOutcome) : Prop := o ≠ .complete ∧ o ≠ .busy ∧ o ≠ .emptyAnswer

/-- A failed exchange ends its job, of any kind but CENSUS, with its counts (R94). -/
theorem State.jobOutcome_of_fails (h : s.activeJob = some (j, x)) (hk : j.kind ≠ .census) {o : ExchangeOutcome}
    (ho : o.fails) : s.jobOutcome e o =
      (s.setActive (some (x.withExchange e))).endJob o.result (j.kind.cleanup (e.opens o)) := by
  obtain ⟨h1, h2, h3⟩ := ho
  rw [State.jobOutcome, h]
  cases o <;> simp_all [JobContext.absorb_eq_withExchange]

/-- The Active job, after its context took the counts of the exchange. -/
theorem State.activeJob_setActive (h : s.activeJob = some (j, x)) (y : JobContext) :
    (s.setActive (some y)).activeJob = some (j, y) := by
  obtain ⟨rest, hj⟩ := State.jobs_of_activeJob h
  exact State.activeJob_eq (s := s.setActive (some y)) hj rfl

/-- The bus unit in Free with no exchange: what the end of an exchange leaves to the job (section 2.6). -/
def State.released (s : State) : State := { s with exchange := none, bus := s.bus.inFree }

theorem State.released_eq (hw : s.bus.waiting = none) : (s.setExchange none).busToFree = s.released := by
  rw [State.busToFree, State.setExchange_bus, BusUnit.toFree_of_nothing_waiting _ _ hw]
  rfl

/-- A failed exchange of a Running job with no CUT: NO-STATION (R24). -/
theorem State.endExchange_of_running (hw : s.bus.waiting = none) (hq : s.seq.state = .running) (o : ExchangeOutcome) :
    s.endExchange e o = s.released.jobOutcome e o := by
  simp only [State.endExchange, State.released_eq hw]
  rw [show s.released.seq.state = .running from hq]

/-- The completion of a CUT in Cutting (R39). -/
theorem State.endCut_of_cutting (hw : s.bus.waiting = none) (hq : s.seq.state = .cutting)
    (h : s.activeJob = some (j, x)) (hk : j.kind ≠ .census) {o : ExchangeOutcome} (ho : e.outcome = some o) :
    s.endCut e = s.released.jobOutcome e o := by
  have hact : s.released.activeJob = some (j, x) := h
  simp only [State.endCut, State.released_eq hw, ho, Option.getD_some]
  rw [show s.released.seq.state = .cutting from hq]
  simp [hact, hk]

/-- The completion of a CUT after a SOFT-RESET has discarded the job (R116). -/
theorem State.endCut_of_discarded (hw : s.bus.waiting = none) (hq : s.seq.state = .cutting) (ha : s.active = none) :
    s.endCut e = s.released.setSeqState .idle := by
  have hact : s.released.activeJob = none := by
    unfold State.activeJob
    rw [show s.released.active = none from ha]
    split
    next h => cases h
    next => rfl
  simp only [State.endCut, State.released_eq hw]
  rw [show s.released.seq.state = .cutting from hq, hact]

/-- The event of an answer timeout in Turnaround: the station is Absent, and the exchange ends NO-STATION (R24, R46). -/
theorem State.answerTimeout_eq (he : s.exchange = some e) (ha : s.bus.activity = .turnaround)
    (ht : s.bus.timing .answer = true) (hq : s.seq.state = .running) :
    exec .answerTimeout s =
      .next (State.decide ((s.reportStation e.station Station.answerTimeout).endExchange e .noStation)) := by
  refine congrArg Host.Outcome.next ((State.onReport_eq he (by simp [ha, ht]) _).trans ?_)
  exact State.settle_of_not_idle _ _ (by simp [hq])

/-- The event of a CUT's completion (R16). -/
theorem State.cutCompletion_eq (he : s.exchange = some e) (ha : s.bus.activity = .cutting)
    (hq : s.seq.state = .cutting) : exec .cutCompletion s = .next (State.decide (s.endCut e)) := by
  refine congrArg Host.Outcome.next ?_
  rw [State.cutCompletion, if_pos ha, he]
  exact State.settle_of_not_idle _ _ (by simp [hq])

/-- How a failed exchange ends its job, by the kind of the job: a PUT, TAKE, STATUS or PROBE alone. -/
theorem State.jobOutcome_keep (h : s.activeJob = some (j, x)) (hk : j.kind ∈ [.put, .take, .status, .probe])
    {o : ExchangeOutcome} (ho : o.fails) :
    s.jobOutcome e o = s.afterJobEnd (j.endRecord (x.withExchange e) o.result 0) := by
  have hc : j.kind.cleanup (e.opens o) = .keep ∧ j.kind ≠ .census := by
    cases hj : j.kind <;> simp [hj] at hk <;> exact ⟨rfl, by simp⟩
  rw [State.jobOutcome_of_fails h hc.2 ho, hc.1, State.endJob_keep (State.activeJob_setActive h _)]
  rfl

/-- A SHUT, or an OPEN that does not give "opened", closes its link with its end (R64, R66). -/
theorem JobKind.cleanup_close {k : JobKind} {b : Bool} (h : k = .shut ∨ (k = .openLink ∧ b = false)) :
    k.cleanup b = .close .link ∧ k ≠ .census := by
  rcases h with rfl | ⟨rfl, rfl⟩ <;> exact ⟨rfl, by simp⟩

theorem State.jobOutcome_close (h : s.activeJob = some (j, x)) {o : ExchangeOutcome}
    (hk : j.kind = .shut ∨ (j.kind = .openLink ∧ e.opens o = false)) (ho : o.fails)
    (hh : (s.link j.linkIndex).holder = none) :
    s.jobOutcome e o = (s.afterClose j.linkIndex).afterJobEnd
      (j.endRecord (x.withExchange e) o.result (s.link j.linkIndex).ring.length) := by
  obtain ⟨hc, hcensus⟩ := JobKind.cleanup_close hk
  rw [State.jobOutcome_of_fails h hcensus ho, hc, State.endJob_close_unbound (State.activeJob_setActive h _) (by exact hh)]
  rfl

/-- The same with a Running channel bound to the link (R67, R166). -/
theorem State.jobOutcome_close_bound (h : s.activeJob = some (j, x)) {o : ExchangeOutcome}
    (hk : j.kind = .shut ∨ (j.kind = .openLink ∧ e.opens o = false)) (ho : o.fails) {c : Chan}
    (hh : (s.link j.linkIndex).holder = some c) (hr : (s.chan c).running = true) :
    (s.afterClose j.linkIndex).EndsStopping (s.jobOutcome e o) c .link
      (j.endRecord (x.withExchange e) o.result (s.link j.linkIndex).ring.length) := by
  obtain ⟨hc, hcensus⟩ := JobKind.cleanup_close hk
  rw [State.jobOutcome_of_fails h hcensus ho, hc]
  exact State.endJob_close_bound (State.activeJob_setActive h _) hh hr _ _

/-- An OPEN that was accepted and ended in TURN-ERROR gives "opened" (R64, R99). -/
theorem State.jobOutcome_opened (h : s.activeJob = some (j, x)) (hk : j.kind = .openLink)
    (ha : e.answer.any (·.code == 0) = true) :
    s.jobOutcome e .turnError = State.afterJobEnd
      { s with links := s.links.set j.linkIndex { s.link j.linkIndex with state := .opened } }
      (j.endRecord (x.withExchange e) .turnError 0) := by
  have hc : j.kind.cleanup (e.opens .turnError) = .opened := by
    rw [Exchange.opens, Exchange.accepted_eq, ha, hk]; rfl
  rw [State.jobOutcome_of_fails h (by simp [hk]) (by simp [ExchangeOutcome.fails]), hc,
    State.endJob_opened (State.activeJob_setActive h _)]
  rfl

/-- An exchange gives "opened" after a CUT or an answer timeout only by an ACCEPT and TURN-ERROR (R64). -/
theorem Exchange.opens_of_fails {o : ExchangeOutcome} (ho : o.fails)
    (h : ¬(o = .turnError ∧ e.answer.any (·.code == 0) = true)) : e.opens o = false := by
  rw [Exchange.opens, Exchange.accepted_eq]
  obtain ⟨h1, -, -⟩ := ho
  cases o <;> simp_all

end Failed

end Sys2Proof.Machine

section
open Sys2Proof Sys2Proof.Machine

/-- Settles O47: the failed exchange's outcome goes to the Active job, which ends with its kind's cleanup. -/
theorem failedExchangeEndsJob : Obligations.FailedExchangeEndsJob := by
  have noStation : ExchangeOutcome.noStation.fails := by simp [ExchangeOutcome.fails]
  refine ⟨?timeout, ?cut, ?bound⟩
  case timeout =>
    intro s base e j x rest he ha ht hw hq hj hlen hact hbase
    subst hbase
    have ends : exec .answerTimeout s = _ := (State.answerTimeout_eq he ha ht hq).trans
      (congrArg _ (congrArg State.decide (State.endExchange_of_running (s := s.reportStation _ _) hw hq _)))
    have hjob : (State.released (s.reportStation e.station Station.answerTimeout)).activeJob = some (j, x) :=
      State.activeJob_eq hj hact
    constructor
    · intro hk
      rw [ends, State.jobOutcome_keep hjob hk noStation]
      rfl
    · intro hk hh
      have hk' : j.kind = .shut ∨ (j.kind = .openLink ∧ e.opens .noStation = false) := by
        rw [Exchange.opens_of_fails noStation (by simp)]; simpa [or_comm] using hk
      rw [ends, State.jobOutcome_close hjob hk' noStation hh]
      rfl
  case cut =>
    intro s base e o j x rest ha hw hq he hbase
    subst hbase
    have ends := State.cutCompletion_eq he ha hq
    constructor
    · intro hact
      rw [ends, State.endCut_of_discarded hw hq hact]
      rfl
    · intro hact hj hlen ho hmem
      have fails : o.fails := by
        simp only [List.mem_cons, List.not_mem_nil, or_false] at hmem
        rcases hmem with rfl | rfl | rfl | rfl | rfl <;> simp [ExchangeOutcome.fails]
      have hs := State.activeJob_eq hj hact
      have hjob : s.released.activeJob = some (j, x) := hs
      have cut (hk : j.kind ≠ .census) := State.endCut_of_cutting hw hq hs hk ho
      refine ⟨fun hk => ?_, fun hk hh => ?_, fun hk ho ha => ?_⟩
      · rw [ends, cut (by rintro h; simp [h] at hk), State.jobOutcome_keep hjob hk fails]
        rfl
      · have hk' : j.kind = .shut ∨ (j.kind = .openLink ∧ e.opens o = false) :=
          hk.imp_right fun ⟨hk, h⟩ => ⟨hk, Exchange.opens_of_fails fails h⟩
        rw [ends, cut (by rintro h; simp [h] at hk), State.jobOutcome_close hjob hk' fails hh]
        rfl
      · subst ho
        rw [ends, cut (by simp [hk]), State.jobOutcome_opened hjob hk ha]
        rfl
  case bound =>
    intro s base i e r j x rest c hw he hj hlen hact hcase hh hr
    have hs := State.activeJob_eq hj hact
    rcases hcase with ⟨rfl, ha, ht, hq, rfl, hk, rfl⟩ | ⟨rfl, ha, hq, hmem, hk, rfl⟩
    · refine ⟨_, ?_, (State.answerTimeout_eq he ha ht hq).trans (congrArg _ (congrArg State.decide
        (State.endExchange_of_running (s := s.reportStation _ _) hw hq _)))⟩
      have hjob : (State.released (s.reportStation e.station Station.answerTimeout)).activeJob = some (j, x) := hs
      have hk' : j.kind = .shut ∨ (j.kind = .openLink ∧ e.opens .noStation = false) := by
        rw [Exchange.opens_of_fails noStation (by simp)]; simpa [or_comm] using hk
      exact State.jobOutcome_close_bound hjob hk' noStation hh hr
    · obtain ⟨o, ho, fails, rfl, hturn⟩ : ∃ o, e.outcome = some o ∧ o.fails ∧ o.result = r ∧
          (o = .turnError → r = .turnError) := by
        simp only [List.mem_cons, Prod.mk.injEq, List.not_mem_nil, or_false] at hmem
        rcases hmem with ⟨ho, rfl⟩ | ⟨ho, rfl⟩ | ⟨ho, rfl⟩ | ⟨ho, rfl⟩ | ⟨ho, rfl⟩ <;>
          exact ⟨_, ho, by simp [ExchangeOutcome.fails], rfl, by simp⟩
      have hk' : j.kind = .shut ∨ (j.kind = .openLink ∧ e.opens o = false) :=
        hk.imp_right fun ⟨hk, h⟩ => ⟨hk, Exchange.opens_of_fails fails fun g => h ⟨hturn g.1, g.2⟩⟩
      refine ⟨_, ?_, (State.cutCompletion_eq he ha hq).trans (congrArg _ (congrArg State.decide
        (State.endCut_of_cutting hw hq hs (JobKind.cleanup_close hk').2 ho)))⟩
      exact State.jobOutcome_close_bound (s := s.released) hs hk' fails hh hr

end

/-! # What the laws of pace and of the scan context look at (R22, R50, R51, R118)

The exchange in progress, the pace part of each station's entry, CFG.CLOCKED and the scan context decide these laws and
the pace request of a new header. `State.paceView` gathers them. `PaceView.Leads` says what the sequencer, the arbiter and
a scan can do to them, and `State.PaceStep` what a whole event can do. -/

namespace Sys2Proof.Machine

/-! ### The view -/

/-- The part of a station's entry that decides its pace (R48 to R51). -/
structure PaceEntry where
  capability : Capability
  demoted : Bool
  streak : Bool

def Station.paceEntry (e : Station) : PaceEntry :=
  { capability := e.capability, demoted := e.demoted, streak := e.streak }

/-- The parts of the state that the laws of pace and of the scan context speak of. -/
structure PaceView where
  exchange : Option Exchange
  entries : StationIndex → PaceEntry
  clocked : Bool
  scan : Option Scan

/-- The view of a state. -/
def State.paceView (s : State) : PaceView :=
  { exchange := s.exchange, entries := fun i => (s.station i).paceEntry, clocked := s.settings.clocked,
    scan := s.attention.scan }

@[simp] theorem State.paceView_exchange (s : State) : s.paceView.exchange = s.exchange := rfl
@[simp] theorem State.paceView_clocked (s : State) : s.paceView.clocked = s.settings.clocked := rfl
@[simp] theorem State.paceView_scan (s : State) : s.paceView.scan = s.attention.scan := rfl
@[simp] theorem State.paceView_demoted (s : State) (i : StationIndex) :
    (s.paceView.entries i).demoted = (s.station i).demoted := rfl
@[simp] theorem State.paceView_streak (s : State) (i : StationIndex) :
    (s.paceView.entries i).streak = (s.station i).streak := rfl
@[simp] theorem State.paceView_capability (s : State) (i : StationIndex) :
    (s.paceView.entries i).capability = (s.station i).capability := rfl

/-- What the law of pace asks of an exchange whose station is demoted or not (R22, R49). -/
structure Exchange.PaceFits (e : Exchange) (demoted : Bool) : Prop where
  clocked : e.isClocked = true → e.paceRequest = true ∧ e.answer.any (·.capability) = true
  requested : e.paceRequest = true → e.phase ≠ .cut → demoted = false

/-- The law of pace and of demotion, on the view (R22, section 3.3). -/
structure PaceView.Lawful (v : PaceView) : Prop where
  pace : ∀ e, v.exchange = some e → e.kind = .put ∨ e.kind = .take → e.PaceFits (v.entries e.station).demoted
  streak : ∀ i, (v.entries i).demoted = true → (v.entries i).streak = false

/-- The law of the scan context, on the view (R118). -/
def PaceView.ScanFits (v : PaceView) : Prop :=
  ∀ x, v.scan = some x → x.visited.Nodup ∧ x.visits = x.visited.length

theorem State.paceFits_iff (s : State) : s.paceFits = true ↔
    ∀ e, s.exchange = some e → e.kind = .put ∨ e.kind = .take → e.PaceFits (s.station e.station).demoted := by
  unfold State.paceFits
  cases hx : s.exchange with
  | none => simp
  | some e =>
    have fits : e.PaceFits (s.station e.station).demoted ↔
        (e.isClocked = true → e.paceRequest = true ∧ e.answer.any (·.capability) = true) ∧
          (e.paceRequest = true → e.phase ≠ .cut → (s.station e.station).demoted = false) :=
      ⟨fun ⟨hc, hr⟩ => ⟨hc, hr⟩, fun ⟨hc, hr⟩ => ⟨hc, hr⟩⟩
    simp only [Option.some.injEq, forall_eq', fits, Bool.or_eq_true, Bool.and_eq_true, Bool.not_eq_true', beq_iff_eq,
      Bool.or_eq_false_iff, beq_eq_false_iff_ne]
    grind

/-- The view's law is the law of pace and of demotion. -/
theorem State.paceView_lawful_iff (s : State) : s.paceView.Lawful ↔ s.PaceLaw :=
  ⟨fun ⟨pace, streak⟩ => ⟨s.paceFits_iff.mpr pace, streak⟩,
    fun ⟨pace, streak⟩ => ⟨s.paceFits_iff.mp pace, streak⟩⟩

/-- The view's law is the law of the scan context. -/
theorem State.paceView_scanFits_iff (s : State) : s.paceView.ScanFits ↔ s.scanFits = true := by
  unfold PaceView.ScanFits State.scanFits
  cases hx : s.attention.scan <;> simp [hx]

/-! ### Operations that leave the view as it was -/

section Unchanged
variable (s : State)

@[simp] theorem State.paceView_setBus (x) : (s.setBus x).paceView = s.paceView := rfl
@[simp] theorem State.paceView_setLinks (x) : (s.setLinks x).paceView = s.paceView := rfl
@[simp] theorem State.paceView_setJobs (x) : (s.setJobs x).paceView = s.paceView := rfl
@[simp] theorem State.paceView_setActive (x) : (s.setActive x).paceView = s.paceView := rfl
@[simp] theorem State.paceView_setMover (x) : (s.setMover x).paceView = s.paceView := rfl
@[simp] theorem State.paceView_setWindow (x) : (s.setWindow x).paceView = s.paceView := rfl
@[simp] theorem State.paceView_setPins (x) : (s.setPins x).paceView = s.paceView := rfl
@[simp] theorem State.paceView_setFreeTick (x) : (s.setFreeTick x).paceView = s.paceView := rfl
@[simp] theorem State.paceView_setLink (i x) : (s.setLink i x).paceView = s.paceView := rfl
@[simp] theorem State.paceView_setChan (c x) : (s.setChan c x).paceView = s.paceView := rfl
@[simp] theorem State.paceView_setSeqState (q) : (s.setSeqState q).paceView = s.paceView := rfl
@[simp] theorem State.paceView_mapActive (f) : (s.mapActive f).paceView = s.paceView := rfl
@[simp] theorem State.paceView_taken : s.taken.paceView = s.paceView := rfl
@[simp] theorem State.paceView_refuse (r) : (s.refuse r).paceView = s.paceView := rfl
@[simp] theorem State.paceView_readBack (v) : (s.readBack v).paceView = s.paceView := rfl
@[simp] theorem State.paceView_returnPages (p) : (s.returnPages p).paceView = s.paceView := rfl
@[simp] theorem State.paceView_startRun (c) : (s.startRun c).paceView = s.paceView := rfl
@[simp] theorem State.paceView_endRun (c r) : (s.endRun c r).paceView = s.paceView := rfl
@[simp] theorem State.paceView_startCut : s.startCut.paceView = s.paceView := rfl
@[simp] theorem State.paceView_sendFrame (a f) : (s.sendFrame a f).paceView = s.paceView := rfl

/-- A report that leaves what decides a station's pace (R46, R47, R52). -/
theorem State.paceView_reportStation (i : StationIndex) {f : Station → Station}
    (h : (f (s.station i)).paceEntry = (s.station i).paceEntry) : (s.reportStation i f).paceView = s.paceView := by
  have entries (k : StationIndex) : ((s.reportStation i f).station k).paceEntry = (s.station k).paceEntry := by
    by_cases hk : k = i
    · subst hk; rw [State.reportStation, State.station_setStation_same, h]
    · rw [State.reportStation, State.station_setStation_other _ _ _ _ hk]
  simp only [State.paceView, entries]
  rfl

@[simp] theorem State.paceView_postAmong (k h e) : (s.postAmong k h e).paceView = s.paceView := by
  unfold State.postAmong; split <;> rfl

@[simp] theorem State.paceView_setQroomOnFall (m n) : (s.setQroomOnFall m n).paceView = s.paceView := by
  unfold State.setQroomOnFall; split <;> rfl

@[simp] theorem State.paceView_judgeLatch : s.judgeLatch.paceView = s.paceView := by
  unfold State.judgeLatch; split <;> rfl

@[simp] theorem State.paceView_mapJobLink (f) : (s.mapJobLink f).paceView = s.paceView := by
  unfold State.mapJobLink; split <;> rfl

@[simp] theorem State.paceView_putBackByte (e) : (s.putBackByte e).paceView = s.paceView := by
  unfold State.putBackByte; split <;> simp

@[simp] theorem State.paceView_cutForJob : s.cutForJob.paceView = s.paceView := by
  unfold State.cutForJob; split <;> rfl

@[simp] theorem State.paceView_recordVisit (e o) : (s.recordVisit e o).paceView = s.paceView := by
  have error : (s.reportStation e.station Station.censusError).paceView = s.paceView :=
    s.paceView_reportStation _ rfl
  unfold State.recordVisit; split <;> split <;> simp [error]

@[simp] theorem State.paceView_stopChannel (c r) : (s.stopChannel c r).paceView = s.paceView := by
  unfold State.stopChannel; simp only; split
  · split <;> simp
  · rfl

@[simp] theorem State.paceView_closeLink (i r) : (s.closeLink i r).paceView = s.paceView := by
  unfold State.closeLink; simp only; split <;> simp

@[simp] theorem State.paceView_shutOpenLink (i) : (s.shutOpenLink i).paceView = s.paceView := by
  unfold State.shutOpenLink; simp only; split <;> simp

@[simp] theorem State.paceView_cleanUp (i c) : (s.cleanUp i c).1.paceView = s.paceView := by
  cases c <;> simp [State.cleanUp]

@[simp] theorem State.paceView_startMove (c) : (s.startMove c).paceView = s.paceView := by
  unfold State.startMove; simp only; split
  · rfl
  · split <;> rfl

@[simp] theorem State.paceView_nextMove : s.nextMove.paceView = s.paceView := by
  unfold State.nextMove; split
  · split <;> simp
  · rfl

@[simp] theorem State.paceView_finishMove (m b) : (s.finishMove m b).1.paceView = s.paceView := by
  unfold State.finishMove; simp only; split <;> split <;> rfl

@[simp] theorem State.paceView_completeMove (m b) : (s.completeMove m b).paceView = s.paceView := by
  unfold State.completeMove; simp only; split <;> simp

@[simp] theorem State.paceView_loseLinks : s.loseLinks.paceView = s.paceView := by
  unfold State.loseLinks; simp only; split
  · split <;> simp
  all_goals simp

@[simp] theorem State.paceView_clearAttention : s.clearAttention.paceView = s.paceView := by
  simp only [State.clearAttention, State.paceView_judgeLatch]; rfl

@[simp] theorem State.paceView_readEffect (r) : (s.readEffect r).paceView = s.paceView := by
  unfold State.readEffect; split <;> rfl

@[simp] theorem State.paceView_autoStep : s.autoStep.paceView = s.paceView := by
  unfold State.autoStep; split <;> rfl

@[simp] theorem State.paceView_dataRead : s.dataRead.paceView = s.paceView := by
  unfold State.dataRead; simp only; split <;> simp

@[simp] theorem State.paceView_portRead : s.portRead.paceView = s.paceView := by
  unfold State.portRead; split <;> rfl

@[simp] theorem State.paceView_portWrite (v) : (s.portWrite v).paceView = s.paceView := by
  unfold State.portWrite; split <;> rfl

@[simp] theorem State.paceView_portMark : s.portMark.paceView = s.paceView := by
  unfold State.portMark; split <;> rfl

@[simp] theorem State.paceView_portSkip : s.portSkip.paceView = s.paceView := by
  unfold State.portSkip; split <;> rfl

@[simp] theorem State.paceView_moverStart (c) : (s.moverStart c).paceView = s.paceView := by
  unfold State.moverStart; split <;> simp

@[simp] theorem State.paceView_moverStop (c) : (s.moverStop c).paceView = s.paceView := by
  unfold State.moverStop; split <;> simp

@[simp] theorem State.paceView_moveCompletion (b) : (s.moveCompletion b).paceView = s.paceView := by
  unfold State.moveCompletion; split <;> simp

@[simp] theorem State.paceView_noPattern : s.noPattern.paceView = s.paceView := by
  unfold State.noPattern; split <;> rfl

@[simp] theorem State.paceView_answerTenthBit : s.answerTenthBit.paceView = s.paceView := by
  unfold State.answerTenthBit; split <;> rfl

/-- A new value for the attention unit with the same scan context. -/
theorem State.paceView_setAttention (x : Attention) (h : x.scan = s.attention.scan) :
    (s.setAttention x).paceView = s.paceView := by
  simp [State.paceView, h, State.setAttention, State.station]

/-- An open claim that passes (R63). -/
theorem State.paceView_openClaim {t : State} {i st ch d n} (h : s.openClaim i st ch d n = .ok t) :
    t.paceView = s.paceView := by
  unfold State.openClaim at h
  split at h
  · cases h
  · split at h
    · cases h
    · split at h <;> cases h
      rfl

end Unchanged

/-! ### Operations that change one part of the view -/

section Changed
variable (s : State)

@[simp] theorem State.paceView_setExchange (x) : (s.setExchange x).paceView = { s.paceView with exchange := x } := rfl

@[simp] theorem State.paceView_setSettings (x) : (s.setSettings x).paceView = { s.paceView with clocked := x.clocked } := rfl

@[simp] theorem State.paceView_enterHandback (e : Exchange) :
    (s.enterHandback e).paceView = { s.paceView with exchange := some { e with phase := .handback } } := rfl

@[simp] theorem State.paceView_enterInbound (e : Exchange) :
    (s.enterInbound e).paceView = { s.paceView with exchange := some { e with phase := .inbound } } := rfl

@[simp] theorem State.paceView_sendTest (e : Exchange) :
    (s.sendTest e).paceView = { s.paceView with exchange := some { e with phase := .outbound } } := rfl

@[simp] theorem State.paceView_cutExchange (e : Exchange) :
    (s.cutExchange e).paceView = { s.paceView with exchange := some e.cut } := by
  simp [State.cutExchange]

@[simp] theorem State.paceView_failExchange (e : Exchange) (o : ExchangeOutcome) :
    (s.failExchange e o).paceView = { (s.failureReports e o).paceView with exchange := some (e.failed o) } := by
  simp [State.failExchange]

@[simp] theorem State.paceView_leaveQueue : s.leaveQueue.paceView = { s.paceView with exchange := none } := by
  simp [State.leaveQueue]

@[simp] theorem State.paceView_leaveScan : s.leaveScan.paceView = { s.paceView with scan := none } := by
  simp only [State.leaveScan, State.paceView_judgeLatch]; rfl

@[simp] theorem State.paceView_endScanClaimed (x : Scan) (i v r) :
    (s.endScanClaimed x i v r).paceView = { s.paceView with scan := none } := by
  simp only [State.endScanClaimed, State.paceView_leaveScan]; rfl

@[simp] theorem State.paceView_endScanUnclaimed (x : Scan) :
    (s.endScanUnclaimed x).paceView = { s.paceView with scan := none } := by
  simp only [State.endScanUnclaimed, State.paceView_leaveScan]; rfl

end Changed

/-! ### What the sequencer, the arbiter and a scan can do -/

/-- The header just built asks for Clocked pace only where it may (R20, R22, R51). -/
structure PaceView.PacedHeader (v : PaceView) (e : Exchange) : Prop where
  phase : e.phase = .header
  pace : e.pace = none
  data : e.paceRequest = true → e.kind = .put ∨ e.kind = .take
  clocked : e.paceRequest = true → (v.entries e.station).capability = .clockedCapable ∧
    (v.entries e.station).demoted = false ∧ v.clocked = true

/-- From `v` to `w`, the pace entries and CFG.CLOCKED stay, the exchange stays, is gone or has just begun, and the scan
context keeps its law. -/
structure PaceView.Leads (v w : PaceView) : Prop where
  entries : w.entries = v.entries
  clocked : w.clocked = v.clocked
  exchange : w.exchange = v.exchange ∨ w.exchange = none ∨ ∃ e, w.exchange = some e ∧ v.PacedHeader e
  scan : v.ScanFits → w.ScanFits

theorem PaceView.PacedHeader.congr {v w : PaceView} {e : Exchange} (h : v.PacedHeader e) (he : w.entries = v.entries)
    (hc : w.clocked = v.clocked) : w.PacedHeader e :=
  ⟨h.phase, h.pace, h.data, by rw [he, hc]; exact h.clocked⟩

section Leads
variable {u v w : PaceView}

theorem PaceView.Leads.refl (v : PaceView) : v.Leads v := ⟨rfl, rfl, .inl rfl, id⟩

theorem PaceView.Leads.of_eq (h : w = v) : v.Leads w := h ▸ .refl v

theorem PaceView.Leads.trans (h : u.Leads v) (g : v.Leads w) : u.Leads w := by
  refine ⟨g.entries.trans h.entries, g.clocked.trans h.clocked, ?_, g.scan ∘ h.scan⟩
  rcases g.exchange with hx | hx | ⟨e, hx, he⟩
  · rw [hx]; exact h.exchange
  · exact .inr (.inl hx)
  · exact .inr (.inr ⟨e, hx, he.congr h.entries.symm h.clocked.symm⟩)

/-- The same from any state with that view. -/
theorem PaceView.Leads.of_view (g : v.Leads w) (h : v = u) : u.Leads w := h ▸ g

theorem PaceView.Leads.dropped (v : PaceView) : v.Leads { v with exchange := none } := ⟨rfl, rfl, .inr (.inl rfl), id⟩

theorem PaceView.Leads.begun {e : Exchange} (h : v.PacedHeader e) : v.Leads { v with exchange := some e } :=
  ⟨rfl, rfl, .inr (.inr ⟨e, rfl, h⟩), id⟩

theorem PaceView.Leads.leftScan (v : PaceView) : v.Leads { v with scan := none } :=
  ⟨rfl, rfl, .inl rfl, fun _ x hx => by cases hx⟩

theorem PaceView.Leads.scanned {x : Scan} (h : v.ScanFits → x.visited.Nodup ∧ x.visits = x.visited.length) :
    v.Leads { v with scan := some x } :=
  ⟨rfl, rfl, .inl rfl, fun hv _ hy => Option.some.inj hy ▸ h hv⟩

/-- An exchange that has just begun meets the law of pace: it has no pace yet, and asks for Clocked only of a station that
is not demoted. -/
theorem PaceView.PacedHeader.paceFits {e : Exchange} (h : v.PacedHeader e) :
    e.PaceFits (v.entries e.station).demoted where
  clocked hc := by simp [Exchange.isClocked, h.pace] at hc
  requested hr _ := (h.clocked hr).2.1

theorem PaceView.Leads.lawful (h : v.Leads w) (hv : v.Lawful) : w.Lawful where
  pace e he hk := by
    rw [h.entries]
    rcases h.exchange with hx | hx | ⟨f, hx, hf⟩ <;> rw [hx] at he
    · exact hv.pace e he hk
    · cases he
    · obtain rfl := Option.some.inj he
      exact hf.paceFits
  streak := by rw [h.entries]; exact hv.streak

end Leads

section Sequencer
variable (s : State)

/-- A header whose pace request is clear is in order on every view (R22). -/
theorem Exchange.fresh_pacedHeader (v : PaceView) (k : ExchangeKind) (st : StationIndex) (ch : BitVec 3) (d : Dir)
    (n : Byte) : v.PacedHeader (Exchange.fresh k st ch d false n) :=
  ⟨rfl, rfl, nofun, nofun⟩

/-- The pace request of a PUT or TAKE header is the effective pace of its station (R22, R51). -/
theorem State.dataExchange_pacedHeader {k : ExchangeKind} (hk : k = .put ∨ k = .take) (l : Link) (d : Dir) (n : Nat) :
    s.paceView.PacedHeader (s.dataExchange k l d n) where
  phase := rfl
  pace := rfl
  data _ := hk
  clocked h := by
    have h : (s.station l.station).clockedPace s.settings.clocked = true := h
    simp only [Station.clockedPace, Bool.and_eq_true, beq_iff_eq, Bool.not_eq_true'] at h
    obtain ⟨⟨capable, fresh⟩, cfg⟩ := h
    exact ⟨capable, fresh, cfg⟩

theorem State.beginExchange_leads {e : Exchange} (h : s.paceView.PacedHeader e) :
    s.paceView.Leads (s.beginExchange e).paceView := .begun h

theorem State.endJobSince_leads (n r c) : s.paceView.Leads (s.endJobSince n r c).paceView := by
  unfold State.endJobSince
  split
  · exact .refl _
  · simpa using .dropped s.paceView

theorem State.endJob_leads (r c) : s.paceView.Leads (s.endJob r c).paceView := s.endJobSince_leads _ r c

theorem State.startPut_leads (j x) : s.paceView.Leads (s.startPut j x).paceView := by
  unfold State.startPut; dsimp only; split
  · exact s.endJob_leads _ _
  · split
    · exact s.endJob_leads _ _
    · exact s.beginExchange_leads (s.dataExchange_pacedHeader (.inl rfl) ..)

theorem State.startTake_leads (j x later) : s.paceView.Leads (s.startTake j x later).paceView := by
  unfold State.startTake; dsimp only; split
  · exact s.endJob_leads _ _
  · exact s.beginExchange_leads (s.dataExchange_pacedHeader (.inr rfl) ..)

theorem State.startExchange_leads (later) : s.paceView.Leads (s.startExchange later).paceView := by
  unfold State.startExchange
  split
  · exact .refl _
  next j x _ =>
    cases j.kind
    case put => exact s.startPut_leads j x
    case take => exact s.startTake_leads j x later
    case busReset => exact .refl _
    all_goals exact s.beginExchange_leads (Exchange.fresh_pacedHeader ..)

theorem State.startOpen_leads (j) : s.paceView.Leads (s.startOpen j).paceView := by
  unfold State.startOpen
  split
  · exact s.endJob_leads _ _
  next t ht => exact (PaceView.Leads.of_eq (s.paceView_openClaim ht)).trans (t.startExchange_leads false)

theorem State.startShut_leads (j) : s.paceView.Leads (s.startShut j).paceView := by
  unfold State.startShut
  split
  · simpa using (s.shutOpenLink j.linkIndex).startExchange_leads false
  · exact (State.mapActive s _).endJob_leads _ _
  · exact s.endJob_leads _ _

theorem State.startJob_leads : s.paceView.Leads s.startJob.paceView := by
  unfold State.startJob
  split
  · exact .refl _
  next j _ _ =>
    dsimp only
    cases j.kind
    case openLink => exact (State.startOpen_leads _ j).of_view rfl
    case shut => exact (State.startShut_leads _ j).of_view rfl
    case busReset => exact .refl _
    all_goals exact (State.startExchange_leads _ false).of_view rfl

/-- The next station to visit is one not visited yet (R124). -/
theorem State.chooseVisit_unvisited {visited : List StationIndex} {i : StationIndex}
    (h : s.chooseVisit visited = some i) : i ∉ visited := by
  have unvisited {p : StationIndex → Bool}
      (hp : ((rotationOrder s.attention.rotation).filter fun k => !visited.contains k).find? p = some i) :
      i ∉ visited := by
    simpa using (List.mem_filter.mp (List.mem_of_find?_eq_some hp)).2
  unfold State.chooseVisit at h
  dsimp only at h
  split at h
  next k hk => exact unvisited (hk.trans h)
  next => exact unvisited h

/-- A visit adds an unvisited station and counts it (R125). -/
theorem State.beginVisit_leads {x : Scan} {i : StationIndex} (hi : s.chooseVisit x.visited = some i)
    (hx : s.paceView.ScanFits → x.visited.Nodup ∧ x.visits = x.visited.length) :
    s.paceView.Leads (s.beginVisit x i).paceView := by
  have fits (h : s.paceView.ScanFits) : (x.visited ++ [i]).Nodup ∧ x.visits + 1 = (x.visited ++ [i]).length := by
    obtain ⟨nodup, visits⟩ := hx h
    exact ⟨List.nodup_append.mpr ⟨nodup, List.nodup_singleton i, by
      simpa using fun k hk => ne_of_mem_of_not_mem hk (s.chooseVisit_unvisited hi)⟩, by simp [visits]⟩
  exact (PaceView.Leads.scanned (x := { x with visited := x.visited ++ [i], visits := x.visits + 1, current := some i })
    fits).trans (.begun (Exchange.fresh_pacedHeader ..))

theorem State.startScan_leads : s.paceView.Leads s.startScan.paceView := by
  have empty (x : Scan) (hx : x.visited = [] ∧ x.visits = 0) : x.visited.Nodup ∧ x.visits = x.visited.length := by
    simp [hx.1, hx.2]
  unfold State.startScan
  dsimp only
  have start : s.paceView.Leads { s.paceView with
      scan := some { visited := [], visits := 0, current := none, claim := none } } :=
    .scanned fun _ => empty _ ⟨rfl, rfl⟩
  split
  next i hi => exact start.trans ((State.beginVisit_leads _ hi fun _ => empty _ ⟨rfl, rfl⟩).of_view rfl)
  next =>
    rw [State.paceView_endScanUnclaimed]
    exact start.trans (.leftScan _)

theorem State.endVisit_leads (o) : s.paceView.Leads (s.endVisit o).paceView := by
  unfold State.endVisit
  split
  · exact .refl _
  next x hx =>
    dsimp only
    have pause : s.paceView.Leads (s.setAttention { s.attention with scan := some { x with current := none } }).paceView :=
      .scanned fun h => h x hx
    split
    · rw [State.paceView_endScanClaimed]; exact pause.trans (.leftScan _)
    · split
      · exact pause
      · rw [State.paceView_endScanUnclaimed]; exact pause.trans (.leftScan _)

theorem State.nextVisit_leads : s.paceView.Leads s.nextVisit.paceView := by
  unfold State.nextVisit
  split
  · exact .refl _
  next x hx =>
    split
    next i hi => exact s.beginVisit_leads hi fun h => h x hx
    · rw [State.paceView_endScanUnclaimed]; exact .leftScan _

theorem State.carryOut_leads (w) : s.paceView.Leads (s.carryOut w).paceView := by
  cases w
  · exact s.startScan_leads
  · exact s.startJob_leads

theorem State.arbitrate_leads (fuel) : s.paceView.Leads (State.arbitrate fuel s).paceView := by
  induction fuel generalizing s with
  | zero => exact .refl _
  | succ fuel ih =>
    unfold State.arbitrate
    split
    · split
      · exact .refl _
      next w _ =>
        split
        · exact .refl _
        · exact (((s.setSeq { s.seq with stall := false }).carryOut_leads w).of_view rfl).trans (ih _)
    · exact .refl _

theorem State.decide_leads : s.paceView.Leads s.decide.paceView := s.arbitrate_leads _

theorem State.settle_leads (t : State) : t.paceView.Leads (State.settle s t).paceView := by
  unfold State.settle
  split
  · exact .refl _
  · exact t.decide_leads

/-! ### An exchange's outcome -/

theorem State.busyOutcome_leads (j x) : s.paceView.Leads (s.busyOutcome j x).paceView := by
  unfold State.busyOutcome; dsimp only; split
  · exact (State.endJob_leads _ _ _).of_view rfl
  · split
    · exact (State.startExchange_leads _ false).of_view rfl
    · exact .refl _

theorem State.dataComplete_leads (j x) : s.paceView.Leads (s.dataComplete j x).paceView := by
  unfold State.dataComplete; split
  · exact s.endJob_leads _ _
  · exact .refl _

theorem State.endCensusVisit_leads (e o x) : s.paceView.Leads (s.endCensusVisit e o x).paceView := by
  unfold State.endCensusVisit; dsimp only; split
  · simpa using (s.recordVisit e o).endJob_leads .done .keep
  · simpa using PaceView.Leads.refl s.paceView

theorem State.jobOutcome_leads (e o) : s.paceView.Leads (s.jobOutcome e o).paceView := by
  unfold State.jobOutcome
  split
  · exact .refl _
  next j x _ =>
    dsimp only
    split
    · exact (State.endCensusVisit_leads _ e o _).of_view rfl
    · split
      · exact (State.busyOutcome_leads _ j _).of_view rfl
      · exact (State.endJob_leads _ _ _).of_view rfl
      · split
        · exact (State.dataComplete_leads _ j _).of_view rfl
        · exact (State.endJob_leads _ _ _).of_view rfl
      · exact (State.endJob_leads _ _ _).of_view rfl

theorem State.endExchange_leads (e o) : s.paceView.Leads (s.endExchange e o).paceView := by
  have dropped : s.paceView.Leads (s.setExchange none).busToFree.paceView := .dropped _
  unfold State.endExchange; dsimp only; split
  · exact dropped.trans (State.endVisit_leads _ o)
  · exact dropped.trans (State.jobOutcome_leads _ e o)
  · exact dropped

theorem State.endCut_leads (e) : s.paceView.Leads (s.endCut e).paceView := by
  have dropped : s.paceView.Leads (s.setExchange none).busToFree.paceView := .dropped _
  unfold State.endCut; dsimp only; split
  · exact dropped.trans (State.endVisit_leads _ _)
  · exact dropped.trans (State.jobOutcome_leads _ e _)
  · split
    · exact dropped
    · split
      · refine dropped.trans ?_
        simpa using (State.recordVisit (s.setExchange none).busToFree e (e.outcome.getD .cutByRequest)).endJob_leads
          .aborted .keep
      · exact dropped.trans (State.jobOutcome_leads _ e _)
  · exact dropped

end Sequencer

/-! ### What an event can do to the exchange, its station's entry and the scan context -/

/-- No station is demoted anew, and the streak of a demoted one does not rise. -/
def PaceView.NoWorse (v w : PaceView) : Prop :=
  ∀ i, (w.entries i).demoted = true →
    (v.entries i).demoted = true ∧ ((w.entries i).streak = true → (v.entries i).streak = true)

theorem PaceView.NoWorse.of_eq {v w : PaceView} (h : w.entries = v.entries) : v.NoWorse w := fun i hi => by
  rw [h] at hi ⊢; exact ⟨hi, id⟩

/-- A report on one station that does not demote it, and does not raise the streak of a demoted entry. -/
theorem State.noWorse_reportStation (s : State) (i : StationIndex) {f : Station → Station}
    (h : (f (s.station i)).demoted = true →
      (s.station i).demoted = true ∧ ((f (s.station i)).streak = true → (s.station i).streak = true)) :
    s.paceView.NoWorse (s.reportStation i f).paceView := fun k hk => by
  by_cases hki : k = i
  · subst hki
    simp only [State.paceView_demoted, State.paceView_streak, State.reportStation, State.station_setStation_same] at hk ⊢
    exact h hk
  · simp only [State.paceView_demoted, State.paceView_streak, State.reportStation,
      State.station_setStation_other _ _ _ _ hki] at hk ⊢
    exact ⟨hk, id⟩

/-- `f` is the exchange `e` gone on: the header's fields stay, a pace fixed Clocked is one the header asked for and the
answer allows, and Cut is not left. -/
structure Exchange.Continues (f e : Exchange) : Prop where
  kind : f.kind = e.kind
  station : f.station = e.station
  paceRequest : f.paceRequest = e.paceRequest
  clocked : e.kind = .put ∨ e.kind = .take → f.isClocked = true →
    (e.isClocked = true ∧ f.answer = e.answer) ∨ (e.paceRequest = true ∧ f.answer.any (·.capability) = true)
  cut : f.phase = .cut ∨ e.phase ≠ .cut

/-- The law of pace of an exchange that goes on (R22, R25). -/
theorem Exchange.Continues.paceFits {e f : Exchange} {d d' : Bool} (h : f.Continues e)
    (hk : e.kind = .put ∨ e.kind = .take) (he : e.PaceFits d) (hd : d' = true → d = true) : f.PaceFits d' where
  clocked hc := by
    rcases h.clocked hk hc with ⟨hc, ha⟩ | ⟨hr, ha⟩
    · rw [h.paceRequest, ha]; exact he.clocked hc
    · rw [h.paceRequest]; exact ⟨hr, ha⟩
  requested hr hp := by
    rw [h.paceRequest] at hr
    have := he.requested hr (h.cut.resolve_left hp)
    cases hd' : d'
    · rfl
    · rw [hd hd'] at this; cases this

/-- The law of pace goes on with the exchange while no station's entry gets worse. -/
theorem PaceView.Lawful.continued {v w : PaceView} (h : v.Lawful) (hn : v.NoWorse w)
    (hx : ∀ f, w.exchange = some f → ∃ e, v.exchange = some e ∧ f.Continues e) : w.Lawful where
  pace f hf hk := by
    obtain ⟨e, he, hc⟩ := hx f hf
    rw [hc.kind] at hk
    exact hc.paceFits hk (h.pace e he hk) fun hd => hc.station ▸ (hn _ hd).1
  streak i hi := by
    obtain ⟨hd, hs⟩ := hn i hi
    exact Bool.eq_false_iff.mpr fun hw => Bool.eq_false_iff.mp (h.streak i hd) (hs hw)

theorem Exchange.Continues.refl {e : Exchange} : e.Continues e :=
  ⟨rfl, rfl, rfl, fun _ hc => .inl ⟨hc, rfl⟩, by tauto⟩

theorem Exchange.cut_continues (e : Exchange) : e.cut.Continues e :=
  ⟨rfl, rfl, rfl, fun _ hc => .inl ⟨hc, rfl⟩, .inl rfl⟩

/-- What an event can do: an exchange in the header phase that was not there before is a paced header, and the laws of pace
and of the scan context are kept. -/
structure State.PaceStep (s t : State) : Prop where
  header : ∀ e, t.exchange = some e →
    t.exchange = s.exchange ∨ (s.exchange ≠ none ∧ e.phase ≠ .header) ∨ t.paceView.PacedHeader e
  pace : s.busView.Lawful → s.paceView.Lawful → t.paceView.Lawful
  scan : s.paceView.ScanFits → t.paceView.ScanFits

section Step
variable {s t u : State}

/-- What the sequencer, the arbiter or a scan does after an event's own part is part of the event. -/
theorem State.PaceStep.leads (h : s.PaceStep u) (g : u.paceView.Leads t.paceView) : s.PaceStep t where
  header e he := by
    rcases g.exchange with hx | hx | ⟨f, hx, hf⟩ <;> simp only [State.paceView_exchange] at hx
    · rcases h.header e (hx ▸ he) with hs | hp | hp
      · exact .inl (hx.trans hs)
      · exact .inr (.inl hp)
      · exact .inr (.inr (hp.congr g.entries g.clocked))
    · rw [hx] at he; cases he
    · obtain rfl := Option.some.inj (hx.symm.trans he)
      exact .inr (.inr (hf.congr g.entries g.clocked))
  pace hb hs := g.lawful (h.pace hb hs)
  scan := g.scan ∘ h.scan

/-- An event that leaves the exchange and the scan context, and makes no entry worse. -/
theorem State.PaceStep.of_tables (hx : t.exchange = s.exchange) (hn : s.paceView.NoWorse t.paceView)
    (hs : t.attention.scan = s.attention.scan) : s.PaceStep t where
  header _ _ := .inl hx
  pace _ hl := hl.continued hn fun f hf => ⟨f, hx.symm.trans hf, .refl⟩
  scan h x hx := h x (hs.symm.trans hx)

/-- A write of CFG.CLOCKED reaches only the headers built from then on (R22). -/
theorem State.PaceStep.of_cfg {c : Bool} (h : t.paceView = { s.paceView with clocked := c }) : s.PaceStep t :=
  .of_tables (congrArg PaceView.exchange h) (by rw [h]; exact .of_eq rfl) (congrArg PaceView.scan h)

theorem State.PaceStep.refl (s : State) : s.PaceStep s := .of_tables rfl (.of_eq rfl) rfl

theorem State.PaceStep.of_leads (g : s.paceView.Leads t.paceView) : s.PaceStep t := (State.PaceStep.refl s).leads g

theorem State.PaceStep.of_view (h : t.paceView = s.paceView) : s.PaceStep t := .of_leads (.of_eq h)

/-- An event in which the exchange in progress goes on, in a phase other than Header. -/
theorem State.PaceStep.continued {e f : Exchange} (he : s.exchange = some e) (ht : t.exchange = some f)
    (hp : f.phase ≠ .header) (hc : s.busView.Lawful → f.Continues e) (hn : s.paceView.NoWorse t.paceView)
    (hs : s.paceView.ScanFits → t.paceView.ScanFits) : s.PaceStep t where
  header g hg := .inr (.inl ⟨by simp [he], by
    obtain rfl := Option.some.inj (ht.symm.trans hg)
    exact hp⟩)
  pace hb hl := hl.continued hn fun g hg =>
    ⟨e, he, Option.some.inj (ht.symm.trans hg) ▸ hc hb⟩
  scan := hs

/-- An event of which the view shows nothing but the exchange gone on. -/
theorem State.PaceStep.goesOn {e f : Exchange} (he : s.exchange = some e)
    (ht : t.paceView = { s.paceView with exchange := some f }) (hp : f.phase ≠ .header)
    (hc : s.busView.Lawful → f.Continues e) : s.PaceStep t :=
  .continued he (congrArg PaceView.exchange ht) hp hc (by rw [ht]; exact .of_eq rfl) (by rw [ht]; exact id)

/-- What a report does to the station table or to the scan context before the rest of an event. -/
theorem State.PaceStep.after (h : u.PaceStep t) (hb : u.busView = s.busView) (hn : s.paceView.NoWorse u.paceView)
    (hs : s.paceView.ScanFits → u.paceView.ScanFits) : s.PaceStep t := by
  have hx : u.exchange = s.exchange := congrArg BusView.exchange hb
  refine ⟨by rw [← hx]; exact h.header, fun hl hv => h.pace (hb ▸ hl) ?_, h.scan ∘ hs⟩
  exact hv.continued hn fun f hf => ⟨f, hx.symm.trans hf, .refl⟩

/-- The bus unit reports on the exchange in progress, which by the law of the station bus is not in Cut. -/
structure State.Reported (s : State) (e : Exchange) : Prop where
  exchange : s.exchange = some e
  notCut : s.busView.Lawful → e.phase ≠ .cut

theorem State.Reported.of_view {e : Exchange} (h : s.Reported e) (hu : u.busView = s.busView) : u.Reported e :=
  ⟨(congrArg BusView.exchange hu).trans h.exchange, fun hl => h.notCut (hu ▸ hl)⟩

/-- `f` is the exchange `e` in another phase or with other counts. -/
structure Exchange.SameTerms (f e : Exchange) : Prop where
  kind : f.kind = e.kind
  station : f.station = e.station
  paceRequest : f.paceRequest = e.paceRequest
  answer : f.answer = e.answer
  pace : f.pace = e.pace

theorem Exchange.SameTerms.inPhase {f e : Exchange} (h : f.SameTerms e) {p : Phase} :
    Exchange.SameTerms { f with phase := p } e :=
  ⟨h.kind, h.station, h.paceRequest, h.answer, h.pace⟩

/-- The exchange reported on goes on, on the terms of its header and its answer. -/
theorem State.Reported.continued {e f : Exchange} (h : s.Reported e)
    (ht : t.paceView = { s.paceView with exchange := some f }) (hp : f.phase ≠ .header) (hf : f.SameTerms e) :
    s.PaceStep t :=
  .goesOn h.exchange ht hp fun hb => ⟨hf.kind, hf.station, hf.paceRequest,
    fun _ hc => .inl ⟨by rwa [Exchange.isClocked, hf.pace] at hc, hf.answer⟩, .inr (h.notCut hb)⟩

/-- A report that some activity gives: what it does to the exchange in progress, and the arbiter's decision. -/
theorem State.onReport_paceStep {w : Bool} {f : Exchange → State}
    (hf : ∀ e, s.exchange = some e → s.PaceStep (f e)) : s.PaceStep (s.onReport w f) := by
  unfold State.onReport
  split
  next e he =>
    split
    · exact (hf e he).leads (s.settle_leads _)
    · exact .refl s
  next => exact .refl s

/-- A report of activities other than a CUT's. -/
theorem State.onReport_paceStep_reported {w : Bool} {f : Exchange → State} (hw : w = true → s.bus.activity ≠ .cutting)
    (hf : ∀ e, s.Reported e → s.PaceStep (f e)) : s.PaceStep (s.onReport w f) := by
  cases w
  · rw [State.onReport_of_false]; exact .refl s
  · exact State.onReport_paceStep fun e he => hf e ⟨he, fun hl => (hl.onWire he (hw rfl)).notCut⟩

/-! ### Failures -/

theorem State.reportPace_station (i k : StationIndex) (f : Station → Station) :
    (s.reportPace i f).station k = if k = i then f (s.station i) else s.station k := by
  have stations : (s.reportPace i f).station k = (s.reportStation i f).station k := by
    unfold State.reportPace; dsimp only; split <;> rfl
  rw [stations, State.reportStation]
  split
  next h => rw [h, State.station_setStation_same]
  next h => rw [State.station_setStation_other _ _ _ _ h]

/-- A report that leaves a demoted entry streak 0 keeps the law of demotion (R49, R50). -/
theorem State.reportPace_streak (hl : s.paceView.Lawful) {i : StationIndex} {f : Station → Station}
    (hf : (f (s.station i)).demoted = true → (f (s.station i)).streak = false) (k : StationIndex) :
    ((s.reportPace i f).station k).demoted = true → ((s.reportPace i f).station k).streak = false := by
  rw [State.reportPace_station]
  split
  · exact hf
  · exact hl.streak k

/-- The station of a Clocked data phase is not demoted, so the report that it failed leaves no demoted entry with streak 1
(R22, R49). -/
theorem State.phaseFailed_streak (hl : s.paceView.Lawful) {e : Exchange} (he : s.exchange = some e)
    (hc : e.isClocked = true) (hd : e.inDataPhase = true) :
    (s.station e.station).phaseFailed.demoted = true → (s.station e.station).phaseFailed.streak = false := by
  have hdata : (e.kind = .put ∨ e.kind = .take) ∧ e.phase ≠ .cut := by
    simp only [Exchange.inDataPhase, Bool.or_eq_true, Bool.and_eq_true, beq_iff_eq] at hd
    rcases hd with ⟨hk, hp⟩ | ⟨hk, hp⟩ <;> simp [hk, hp]
  have fits := hl.pace e he hdata.1
  have fresh : (s.station e.station).demoted = false := fits.requested (fits.clocked hc).1 hdata.2
  rw [Station.phaseFailed, fresh]
  cases hs : (s.station e.station).streak <;> simp

theorem State.failureReports_streak (hl : s.paceView.Lawful) {e : Exchange} (he : s.exchange = some e)
    (o : ExchangeOutcome) (i : StationIndex) :
    ((s.failureReports e o).station i).demoted = true → ((s.failureReports e o).station i).streak = false := by
  unfold State.failureReports
  split
  next h =>
    simp only [Bool.and_eq_true] at h
    obtain ⟨⟨-, hc⟩, hd⟩ := h
    exact State.reportPace_streak hl (State.phaseFailed_streak hl he hc hd) i
  next =>
    split
    · exact State.reportPace_streak hl (fun _ => rfl) i
    · exact hl.streak i

/-- A failure puts the exchange in Cut, where a demotion no longer concerns it (R39, R49). -/
theorem State.failExchange_paceStep {e : Exchange} (he : s.exchange = some e) (o : ExchangeOutcome) :
    s.PaceStep (s.failExchange e o) := by
  have hx : (s.failExchange e o).exchange = some (e.failed o) := congrArg PaceView.exchange (s.paceView_failExchange e o)
  refine ⟨fun f hf => .inr (.inl ⟨by simp [he], ?_⟩), fun _ hl => ?_, ?_⟩
  · obtain rfl := Option.some.inj (hx.symm.trans hf)
    simp [Exchange.failed]
  · rw [State.paceView_failExchange]
    refine ⟨fun f hf hk => ?_, State.failureReports_streak hl he o⟩
    obtain rfl := Option.some.inj hf
    exact ⟨(hl.pace e he hk).clocked, fun _ hp => absurd rfl hp⟩
  · rw [State.paceView_failExchange, State.failureReports_eq]
    exact id

theorem State.takeNak_paceStep {e : Exchange} (he : s.exchange = some e) : s.PaceStep (s.takeNak e) := by
  unfold State.takeNak
  split
  · exact State.failExchange_paceStep he _
  · exact .of_view (by simp)

/-! ### Steps of the phases -/

/-- A valid answer and an invalid one alike: the exchange takes the answer and its pace, and goes to a later phase (R25,
R26, R27). -/
theorem State.paceView_takeAnswer (e : Exchange) (a : Answer) : ∃ p o, p ≠ Phase.header ∧
    (s.takeAnswer e a).paceView = { (s.reportStation e.station (·.answerReport a)).paceView with
      exchange := some { e with
        answer := some a, pace := some (e.paceAt a s.settings.clkRate), phase := p, outcome := o } } := by
  unfold State.takeAnswer
  dsimp only
  split
  · refine ⟨.cut, some .protocolError, by simp, ?_⟩
    rw [State.paceView_failExchange, State.failureReports_of_none (.inr rfl)]
    rfl
  · split
    · exact ⟨.handback, e.outcome, by simp, rfl⟩
    · split
      · exact ⟨.inbound, e.outcome, by simp, rfl⟩
      · exact ⟨.inbound, e.outcome, by simp, rfl⟩
      · exact ⟨.handback, e.outcome, by simp, rfl⟩

/-- A Clocked pace is fixed at the answer of a capable station, for a PUT or TAKE whose header asked for it (R25). -/
theorem Exchange.paceAt_clocked {e : Exchange} {a : Answer} {r : BitVec 2} (hk : e.kind = .put ∨ e.kind = .take)
    (h : e.paceAt a r ≠ .basic) : e.paceRequest = true ∧ a.capability = true := by
  have notProbe : (e.kind == .probe) = false := by rcases hk with hk | hk <;> rw [hk] <;> rfl
  unfold Exchange.paceAt at h
  cases ha : a.capability <;> cases hr : e.paceRequest <;> simp_all

theorem State.takeAnswer_paceStep {e : Exchange} (h : s.Reported e) (a : Answer) : s.PaceStep (s.takeAnswer e a) := by
  obtain ⟨p, o, hp, hview⟩ := s.paceView_takeAnswer e a
  refine .continued h.exchange (congrArg PaceView.exchange hview) hp
    (fun hb => ⟨rfl, rfl, rfl, fun hk hc => .inr ?_, .inr (h.notCut hb)⟩) ?_ fun hs => by rw [hview]; exact hs
  · refine Exchange.paceAt_clocked (r := s.settings.clkRate) hk fun hb => ?_
    simp [Exchange.isClocked, hb] at hc
  · rw [hview]
    exact s.noWorse_reportStation e.station fun hd => ⟨hd, id⟩

theorem State.sendPutByte_paceStep {e f : Exchange} (h : s.Reported e) (hf : f.SameTerms e) :
    s.PaceStep (s.sendPutByte f) := by
  unfold State.sendPutByte
  split
  · exact .refl s
  · split
    · exact .refl s
    · refine h.continued (f := { f with phase := .outbound }) ?_ (by simp) hf.inPhase
      rw [State.paceView_sendFrame, State.paceView_setExchange, State.paceView_mapJobLink]

theorem State.sendTest_paceStep {e f : Exchange} (h : s.Reported e) (hf : f.SameTerms e) : s.PaceStep (s.sendTest f) :=
  h.continued (s.paceView_sendTest f) (by simp) hf.inPhase

theorem State.takeHandback_paceStep {e : Exchange} (h : s.Reported e) : s.PaceStep (s.takeHandback e) := by
  unfold State.takeHandback
  split
  · exact .refl s
  · split
    · exact .of_leads (s.endExchange_leads e _)
    · split
      · exact State.sendPutByte_paceStep h ⟨rfl, rfl, rfl, rfl, rfl⟩
      · split
        · exact .of_leads (s.endExchange_leads e _)
        · exact State.sendTest_paceStep h ⟨rfl, rfl, rfl, rfl, rfl⟩
      · exact .of_leads (s.endExchange_leads e _)

/-- A visit's claim leaves the stations visited (R126). -/
theorem State.recordClaim_leads (s : State) (e : Exchange) (v : Byte) : s.paceView.Leads (s.recordClaim e v).paceView := by
  unfold State.recordClaim
  split
  next x a _ hx _ =>
    split
    · exact .scanned fun h => h x hx
    · exact .refl _
  next => exact .refl _

theorem State.takeStatus_paceStep {e : Exchange} (h : s.Reported e) (v : Byte) : s.PaceStep (s.takeStatus e v) := by
  have view : (s.reportStation e.station (·.statusReport v)).paceView = s.paceView := s.paceView_reportStation _ rfl
  have claim := (s.reportStation e.station (·.statusReport v)).recordClaim_leads e v
  rw [view] at claim
  have bus : ((s.reportStation e.station (·.statusReport v)).recordClaim e v).busView = s.busView := by simp
  exact .after ((h.of_view bus).continued (State.paceView_enterHandback _ _) (by simp) ⟨rfl, rfl, rfl, rfl, rfl⟩) bus
    (.of_eq claim.entries) claim.scan

/-- "Clocked phase good" demotes no station (R48). -/
theorem State.goodPhase_noWorse (e : Exchange) : s.paceView.NoWorse (s.goodPhase e).paceView := by
  unfold State.goodPhase
  split
  · exact s.noWorse_reportStation e.station fun hd => ⟨hd, nofun⟩
  · exact .of_eq rfl

theorem State.goodPhase_scan (e : Exchange) : (s.goodPhase e).attention.scan = s.attention.scan := by
  unfold State.goodPhase; split <;> rfl

/-- The rest of an event after the end of a data phase (R38). -/
theorem State.PaceStep.after_goodPhase {e : Exchange} (h : (u.goodPhase e).PaceStep t) (hu : u.paceView = s.paceView)
    (hb : u.busView = s.busView) : s.PaceStep t :=
  h.after ((u.busView_goodPhase e).trans hb) (hu ▸ State.goodPhase_noWorse e) fun hs x hx =>
    hs x ((congrArg PaceView.scan hu).symm.trans ((State.goodPhase_scan e).symm.trans hx))

theorem State.takeData_paceStep {e : Exchange} (h : s.Reported e) (v : Byte) (m : Bool) :
    s.PaceStep (s.takeData e v m) := by
  have view : (s.mapJobLink fun l => l.takeAppend v m).paceView = s.paceView := s.paceView_mapJobLink _
  have bus : (s.mapJobLink fun l => l.takeAppend v m).busView = s.busView := s.busView_mapJobLink _
  unfold State.takeData; dsimp only; split
  · refine .after_goodPhase
      (e := { e with framesDone := e.framesDone + 1, markReceived := e.markReceived || m }) ?_ view bus
    exact (h.of_view ((State.busView_goodPhase _ _).trans bus)).continued (State.paceView_enterHandback _ _) (by simp)
      ⟨rfl, rfl, rfl, rfl, rfl⟩
  · refine h.continued ((State.paceView_enterInbound _ _).trans (by rw [view])) (by simp) ?_
    exact ⟨rfl, rfl, rfl, rfl, rfl⟩

theorem State.takeFrame_paceStep {e : Exchange} (h : s.Reported e) (v : Byte) (m : Bool) :
    s.PaceStep (s.takeFrame e v m) := by
  unfold State.takeFrame; split
  · exact State.takeStatus_paceStep h v
  · exact (State.takeData_paceStep h v m).leads (.of_eq (by simp))
  · exact .refl s

theorem State.putByteSent_paceStep {e : Exchange} (h : s.Reported e) (m : Bool) : s.PaceStep (s.putByteSent e m) := by
  have view : ((s.mapJobLink Link.putRemove).mapActive fun x => { x with msgEnd := x.msgEnd || m }).paceView =
      s.paceView := by simp
  have bus : ((s.mapJobLink Link.putRemove).mapActive fun x => { x with msgEnd := x.msgEnd || m }).busView =
      s.busView := by simp
  unfold State.putByteSent; dsimp only; split
  · exact .after_goodPhase (e := { e with framesDone := e.framesDone + 1 }) (.of_leads (State.endExchange_leads _ _ _))
      view bus
  · refine .after (State.sendPutByte_paceStep (h.of_view bus) ?_) bus (.of_eq (by rw [view])) (by rw [view]; exact id)
    exact ⟨rfl, rfl, rfl, rfl, rfl⟩

theorem State.testSent_paceStep {e : Exchange} (h : s.Reported e) : s.PaceStep (s.testSent e) := by
  unfold State.testSent; dsimp only; split
  · exact State.sendTest_paceStep h ⟨rfl, rfl, rfl, rfl, rfl⟩
  · split
    · refine .after (.of_leads (State.endExchange_leads _ _ _)) (s.busView_reportPace _ _) (fun i => ?_) fun hs => ?_
      · simp only [State.paceView_demoted, State.paceView_streak, State.reportPace_station]
        split
        · exact nofun
        · exact fun hd => ⟨hd, id⟩
      · have : (s.reportPace e.station (Station.testReport · true)).attention = s.attention := by
          unfold State.reportPace; dsimp only; split <;> rfl
        exact fun x hx => hs x ((congrArg Attention.scan this).symm.trans hx)
    · exact .of_leads (State.endExchange_leads _ _ _)

theorem State.takeAck_paceStep {e : Exchange} (h : s.Reported e) : s.PaceStep (s.takeAck e) := by
  unfold State.takeAck; split
  · split
    · exact .of_view (by simp)
    · exact h.continued (f := { e with phase := .answer }) rfl (by simp) ⟨rfl, rfl, rfl, rfl, rfl⟩
  · split
    · exact State.putByteSent_paceStep h _
    · exact State.testSent_paceStep h
    · exact .refl s

theorem State.cutCompletion_paceStep (s : State) : s.PaceStep s.cutCompletion := by
  unfold State.cutCompletion
  split
  · split
    next e _ => exact .of_leads ((s.endCut_leads e).trans (s.settle_leads _))
    next => exact .of_leads ((s.settle_leads _).of_view rfl)
  · exact .refl s

theorem State.busyDelayEnd_paceStep (s : State) : s.PaceStep s.busyDelayEnd := by
  unfold State.busyDelayEnd
  split
  · exact .of_leads (((s.setSeqState .running).startExchange_leads false).of_view rfl |>.trans (s.settle_leads _))
  · exact .refl s

theorem State.nextStep_paceStep (s : State) : s.PaceStep s.nextStep := by
  unfold State.nextStep
  split
  · split
    · exact .of_leads ((s.startExchange_leads true).trans (s.settle_leads _))
    · exact .refl s
  · exact .of_leads (s.nextVisit_leads.trans (s.settle_leads _))
  · exact .refl s

/-! ### Resets -/

/-- Entries at their pin reset values are not demoted (R44, R54). -/
theorem PaceView.NoWorse.of_reset (v : PaceView) (h : t.stations = Vector.replicate Config.stationCount Station.reset) :
    v.NoWorse t.paceView := fun i hi => by
  simp [State.station, h, Station.reset] at hi

theorem State.pulseCompletion_paceStep (s : State) : s.PaceStep s.pulseCompletion := by
  unfold State.pulseCompletion
  split
  · have tables : (s.busToFree.resetByPulse).paceView =
        (s.setStations (Vector.replicate Config.stationCount Station.reset)).paceView := by
      simp [State.resetByPulse]; rfl
    have reset : s.PaceStep s.busToFree.resetByPulse := by
      refine .of_tables (congrArg PaceView.exchange tables) ?_ (congrArg PaceView.scan tables)
      rw [tables]; exact .of_reset _ rfl
    exact reset.leads ((State.endJobSince_leads _ _ _ _).trans (s.settle_leads _))
  · exact .refl s

theorem State.pinReset_paceStep (s : State) : s.PaceStep s.pinReset := by
  have exchange : s.pinReset.exchange = none := rfl
  have scan : s.pinReset.attention.scan = none := rfl
  refine ⟨fun e h => ?_, fun _ hl => hl.continued (.of_reset _ rfl) fun f h => ?_, fun _ x h => ?_⟩
  · rw [exchange] at h; cases h
  · rw [State.paceView_exchange, exchange] at h; cases h
  · rw [State.paceView_scan, scan] at h; cases h

/-- SOFT-RESET cuts the exchange in progress, ends the scan, and clears every streak (R53, R116, R130). -/
theorem State.softReset_paceStep (s : State) : s.PaceStep s.softReset := by
  have noWorse : s.paceView.NoWorse s.softResetDone.paceView := by
    by_cases hp : s.bus.activity = .pulsing
    · exact .of_reset _ (by rw [State.softResetDone_eq]; simp [hp])
    · intro i
      have : s.softResetDone.station i = (s.station i).softReset := by
        rw [State.softResetDone_eq]; simp [State.station, hp, mapTable_getElem]
      rw [State.paceView_demoted, State.paceView_streak, this]
      exact fun hd => ⟨hd, nofun⟩
  have scan : s.paceView.ScanFits → s.softResetDone.paceView.ScanFits := fun _ x hx => by
    rw [State.softResetDone_eq] at hx; cases hx
  have hx : s.softResetDone.exchange = s.exchange.map Exchange.cut := by rw [State.softResetDone_eq]
  rw [State.softReset_eq_decide]
  refine State.PaceStep.leads ?_ (State.decide_leads _)
  cases he : s.exchange with
  | none =>
    exact ⟨fun e h => by simp [hx, he] at h, fun _ hl => hl.continued noWorse fun f hf => by simp [hx, he] at hf, scan⟩
  | some e =>
    exact .continued he (f := e.cut) (hx.trans (by rw [he]; rfl)) (by simp [Exchange.cut])
      (fun _ => e.cut_continues) noWorse scan

end Step

/-! ### The window and the commands -/

section Commands
variable {s : State}

theorem State.paceView_writeMoverReg {t : State} {c : Chan} {r : MoverReg} {v : Byte}
    (h : s.writeMoverReg c r v = .stored t) : t.paceView = s.paceView := by
  unfold State.writeMoverReg at h
  cases r <;> grind [State.paceView_setChan]

/-- What a stored DATA write does to the view: nothing, unless it is one of CFG. -/
theorem State.paceView_writeReg {t : State} {r : Reg} {v : Byte} (h : s.writeReg r v = .stored t) :
    t.paceView = s.paceView ∨ t = s.writeCfg v := by
  cases r
  case cfg => exact .inr (by simpa [State.writeReg] using h.symm)
  case mover c m => exact .inl (State.paceView_writeMoverReg h)
  case sSel | lSel | pLink =>
    simp only [State.writeReg] at h
    split at h <;> cases h
    exact .inl rfl
  all_goals cases h <;> exact .inl rfl

/-- A write of CFG: no table changes but by the decision, which sees the new CFG (R51, R90). -/
theorem State.writeCfg_paceStep (s : State) (v : Byte) : s.PaceStep (s.writeCfg v) := by
  unfold State.writeCfg; dsimp only
  refine State.PaceStep.leads (.of_cfg (c := v.getLsbD 0) ?_) (State.decide_leads _)
  split
  · simp
  · exact (State.paceView_setAttention _ _ rfl).trans (s.paceView_setSettings _)

theorem State.dataWrite_paceStep (s : State) (v : Byte) : s.PaceStep (s.dataWrite v) := by
  unfold State.dataWrite; dsimp only
  refine State.PaceStep.leads ?_ (.of_eq (State.paceView_autoStep _))
  split
  · exact .refl s
  · split
    next t ht =>
      refine State.PaceStep.leads ?_ (.of_eq t.paceView_taken)
      rcases State.paceView_writeReg ht with heq | rfl
      · exact .of_view heq
      · exact s.writeCfg_paceStep v
    · exact .of_view (by simp)
    · exact .refl s

theorem State.postJob_leads (s : State) : s.paceView.Leads s.postJob.paceView := by
  unfold State.postJob
  split
  · exact .refl _
  · split
    · exact .refl _
    · exact (State.decide_leads _).of_view rfl

theorem State.purgeJobs_leads (s : State) : s.paceView.Leads s.purgeJobs.paceView :=
  (State.decide_leads _).of_view (by simp)

theorem State.popEvent_leads (s : State) : s.paceView.Leads s.popEvent.paceView := by
  unfold State.popEvent
  split
  · exact .refl _
  · exact (State.decide_leads _).of_view rfl

theorem State.askRearm_leads (s : State) : s.paceView.Leads s.askRearm.paceView := by
  unfold State.askRearm
  split
  · exact .refl _
  · refine (State.decide_leads _).of_view ?_
    rw [State.paceView_taken, State.paceView_judgeLatch]
    exact s.paceView_setAttention _ rfl

theorem State.abortNow_leads (s : State) : s.paceView.Leads s.abortNow.paceView := by
  unfold State.abortNow
  split
  · exact s.endJob_leads _ _
  · exact .refl _

theorem State.abortJob_paceStep (s : State) : s.PaceStep s.abortJob := by
  have now : s.PaceStep s.taken.abortNow.decide :=
    .of_leads ((s.taken.abortNow_leads.of_view rfl).trans (State.decide_leads _))
  unfold State.abortJob
  cases s.seq.state <;> dsimp only
  case holding => exact now
  case running =>
    split
    next e he =>
      exact .goesOn he (State.paceView_cutExchange _ e) (by simp [Exchange.cut]) fun _ => e.cut_continues
    next => exact now
  all_goals exact .of_view rfl

theorem State.askAsserted_leads (s : State) : s.paceView.Leads s.askAsserted.paceView := by
  unfold State.askAsserted
  split
  · exact .refl _
  · exact (State.decide_leads _).of_view (by simp)

theorem State.askReleased_leads (s : State) : s.paceView.Leads s.askReleased.paceView :=
  (State.decide_leads _).of_view (State.paceView_setAttention _ _ rfl)

theorem State.commandWrite_paceStep (s : State) (v : Byte) : s.PaceStep (s.commandWrite v) := by
  unfold State.commandWrite
  split
  · exact .of_leads s.postJob_leads
  · exact .of_leads s.popEvent_leads
  · exact s.abortJob_paceStep
  · exact .of_leads s.purgeJobs_leads
  · exact .of_leads s.askRearm_leads
  · exact .of_view s.paceView_portMark
  · exact .of_view s.paceView_portSkip
  · exact .of_view (s.paceView_moverStart .a)
  · exact .of_view (s.paceView_moverStart .b)
  · exact .of_view (s.paceView_moverStop .a)
  · exact .of_view (s.paceView_moverStop .b)
  · exact s.softReset_paceStep
  · exact .of_view (s.paceView_refuse _)

/-! ### Every command -/

theorem onWindow_paceStep {f : State → State} {t : State} (hf : s.PaceStep (f s)) (ht : onWindow f s = .next t) :
    s.PaceStep t := by
  rcases onWindow_cases f s with ⟨-, heq⟩ | ⟨-, heq⟩ <;> rw [heq] at ht <;> cases ht
  · exact hf
  · exact .refl s

theorem next_paceStep {t u : State} (ht : (Host.Outcome.next t : Host.Outcome State Fault Refusal) = .next u)
    (h : s.PaceStep t) : s.PaceStep u := by
  cases ht; exact h

theorem exec_paceStep {t : State} {i : Instr} (ht : exec i s = .next t) : s.PaceStep t := by
  cases i with
  | indexWrite v =>
    exact onWindow_paceStep (f := fun t => t.setWindow { t.window with index := v.setWidth 6 }) (.of_view rfl) ht
  | statusRead =>
    exact onWindow_paceStep
      (f := fun t => (t.setEvents { t.events with qroom := false }).readBack t.statusByte) (.of_view rfl) ht
  | cfgWrite v | intEnWrite v | sSelWrite v | lSelWrite v | pLinkWrite v | maLinkWrite v | registerWrite v =>
    exact onWindow_paceStep (f := (·.dataWrite v)) (s.dataWrite_paceStep v) ht
  | lCountLRead | lTotalLRead | maAddrLRead | maCountLRead | pFlagsRead | dataRead =>
    exact onWindow_paceStep (.of_view s.paceView_dataRead) ht
  | portRead => exact onWindow_paceStep (.of_view s.paceView_portRead) ht
  | portWrite v => exact onWindow_paceStep (f := (·.portWrite v)) (.of_view (s.paceView_portWrite v)) ht
  | portMark => exact onWindow_paceStep (.of_view s.paceView_portMark) ht
  | portSkip => exact onWindow_paceStep (.of_view s.paceView_portSkip) ht
  | moverStart c => exact onWindow_paceStep (f := (·.moverStart c)) (.of_view (s.paceView_moverStart c)) ht
  | moverStop c => exact onWindow_paceStep (f := (·.moverStop c)) (.of_view (s.paceView_moverStop c)) ht
  | post => exact onWindow_paceStep (.of_leads s.postJob_leads) ht
  | pop => exact onWindow_paceStep (.of_leads s.popEvent_leads) ht
  | abort => exact onWindow_paceStep s.abortJob_paceStep ht
  | purge => exact onWindow_paceStep (.of_leads s.purgeJobs_leads) ht
  | askRearm => exact onWindow_paceStep (.of_leads s.askRearm_leads) ht
  | softReset => exact onWindow_paceStep s.softReset_paceStep ht
  | unknownCommand v => exact onWindow_paceStep (f := (·.commandWrite v)) (s.commandWrite_paceStep v) ht
  | pinReset => exact next_paceStep ht s.pinReset_paceStep
  | askLineAsserted => exact next_paceStep ht (.of_leads s.askAsserted_leads)
  | askLineReleased => exact next_paceStep ht (.of_leads s.askReleased_leads)
  | bgntGiven => exact next_paceStep ht (.of_view (State.paceView_nextMove _))
  | bgntWithdrawn => exact next_paceStep ht (.of_view rfl)
  | byteMoveCompletion b => exact next_paceStep ht (.of_view (s.paceView_moveCompletion b))
  | linesReleased => exact next_paceStep ht (State.onReport_paceStep fun _ _ => .of_view rfl)
  | ackRead =>
    refine next_paceStep ht (State.onReport_paceStep_reported (by simp +contextual [or_imp]) fun e he => ?_)
    exact (State.takeAck_paceStep he).leads (.of_eq (State.paceView_nextMove _))
  | nakRead | nakGiven => exact next_paceStep ht (State.onReport_paceStep fun _ he => State.takeNak_paceStep he)
  | answerReceived d m =>
    exact next_paceStep ht (State.onReport_paceStep_reported (by simp +contextual) fun _ he =>
      State.takeAnswer_paceStep he _)
  | frameReceived d m =>
    exact next_paceStep ht (State.onReport_paceStep_reported (by simp +contextual) fun _ he =>
      State.takeFrame_paceStep he d m)
  | handback =>
    exact next_paceStep ht (State.onReport_paceStep_reported (by simp +contextual) fun _ he =>
      State.takeHandback_paceStep he)
  | stbEdgeInHandback =>
    refine next_paceStep ht (State.onReport_paceStep fun e he => ?_)
    split
    · exact State.failExchange_paceStep he _
    · exact .refl s
  | answerTimeout =>
    refine next_paceStep ht (State.onReport_paceStep fun e _ => .of_leads ?_)
    exact (State.endExchange_leads _ e _).of_view (s.paceView_reportStation _ rfl)
  | frameTimeout | turnError =>
    exact next_paceStep ht (State.onReport_paceStep fun _ he => State.failExchange_paceStep he _)
  | cutCompletion => exact next_paceStep ht s.cutCompletion_paceStep
  | pulseCompletion => exact next_paceStep ht s.pulseCompletion_paceStep
  | busyDelayEnd => exact next_paceStep ht s.busyDelayEnd_paceStep
  | nextStep => exact next_paceStep ht s.nextStep_paceStep
  | noPattern => exact next_paceStep ht (.of_view s.paceView_noPattern)
  | answerTenthBit => exact next_paceStep ht (.of_view s.paceView_answerTenthBit)

theorem step_paceStep {t : State} (ht : step s = .next t) : s.PaceStep t := by
  unfold step at ht
  split at ht
  · exact next_paceStep ht (.refl s)
  next c rest _ =>
    have h : (s.setPending rest).PaceStep t := exec_paceStep ht
    exact h.after rfl (.of_eq rfl) id

end Commands

end Sys2Proof.Machine

section
open Sys2Proof Sys2Proof.Machine

/-- Settles O57: every event is a `State.PaceStep`. A station is demoted by the failure of its own exchange, which is in Cut
from then on, and a visit adds a station not yet visited. -/
theorem stepKeepsPaceLaw : Obligations.StepKeepsPaceLaw := by
  intro s t ht
  have h := step_paceStep ht
  constructor
  · intro hq hb hp
    exact t.paceView_lawful_iff.mp
      (h.pace (s.busView_lawful_iff.mpr ⟨hq, hb⟩) (s.paceView_lawful_iff.mpr hp))
  · intro hs
    exact t.paceView_scanFits_iff.mp (h.scan (s.paceView_scanFits_iff.mpr hs))

/-- Settles O60: a header that was not there before is a paced header of the next state. -/
theorem paceRequestNeedsClockedStation : Obligations.PaceRequestNeedsClockedStation := by
  intro c s t e ht he hne hnew hr
  rcases (exec_paceStep ht).header e he with hx | ⟨hx, hp⟩ | hp
  · exact absurd (hx.symm.trans he) hne
  · rcases hnew with h | h
    · exact absurd h hx
    · exact absurd h hp
  · obtain ⟨capable, demoted, clocked⟩ := hp.clocked hr
    exact ⟨hp.data hr, capable, demoted, clocked⟩

end

/-! # Cuts, failed Clocked frames and answers (R25 to R28, R40, R49, R50, R111) -/

namespace Sys2Proof.Machine

section Reports
variable {s : State} {e : Exchange} {j : Job} {x : JobContext} {rest : List Job}

/-- With an Active job, a PUT's byte in flight stays in its ring, and any other exchange has none (R75). -/
theorem State.putBackByte_of_job (hj : s.jobs = j :: rest) (ha : s.active = some x) (e : Exchange) :
    s.putBackByte e = { s with
      links := if e.kind = .put then s.links.set j.linkIndex { s.link j.linkIndex with inFlight := false }
        else s.links } := by
  split
  next hk => rw [State.putBackByte_eq, State.putBackByte_links hk hj (by simp [ha])]
  next hk => rw [State.putBackByte_of_not_put hk]

/-- What ABORT does to the exchange of a Running job (R40, R111). -/
theorem State.abortJob_of_exchange (hq : s.seq.state = .running) (he : s.exchange = some e) :
    s.abortJob = (s.taken.cutExchange e).setSeqState .cutting := by
  simp [State.abortJob, hq, he]

/-- A report on a Clocked phase, with the Active job's DEMOTED flag set when it demotes the station (R97). -/
theorem State.reportPace_eq (ha : s.active = some x) (i : StationIndex) (f : Station → Station) :
    s.reportPace i f = { s with
      stations := s.stations.set i (f (s.station i))
      active := some { x with
        demoted := x.demoted || (!(s.station i).demoted && (f (s.station i)).demoted) } } := by
  unfold State.reportPace
  dsimp only
  split
  next h => simp [State.mapActive, State.reportStation, State.setStation, State.setStations, State.setActive, ha, h]
  next h =>
    have h := Bool.eq_false_iff.mpr h
    simp [State.reportStation, State.setStation, State.setStations, ← ha, h]

/-- A failure changes the station table and the Active job's context by its reports alone. -/
theorem State.failExchange_reports (e : Exchange) (o : ExchangeOutcome) :
    (s.failExchange e o).stations = (s.failureReports e o).stations ∧
      (s.failExchange e o).active = (s.failureReports e o).active := by
  rw [State.failExchange, State.cutForJob_eq, State.putBackByte_eq]
  exact ⟨rfl, rfl⟩

/-- A failure leaves no sequencer Idle that was not, whatever the activity of the bus unit. -/
theorem State.failExchange_keeps_busy (e : Exchange) (o : ExchangeOutcome) :
    (s.failExchange e o).seq.state = .idle → s.seq.state = .idle := by
  have seq : (s.failureReports e o).seq = s.seq := by rw [State.failureReports_eq]
  rw [State.failExchange, State.cutForJob_eq, State.putBackByte_eq]
  intro h
  dsimp only at h
  split at h
  · cases h
  · exact seq ▸ h

end Reports

end Sys2Proof.Machine

section
open Sys2Proof Sys2Proof.Machine

/-- Settles O18: ABORT of a Running job with an exchange is `State.cutExchange`. -/
theorem abortCutsTheExchange : Obligations.AbortCutsTheExchange := by
  intro s e j x rest hw hq he hj ha hp
  refine (onWindow_open (·.abortJob) hw).trans (congrArg Host.Outcome.next ?_)
  rw [State.abortJob_of_exchange hq he, State.cutExchange, State.putBackByte_of_job (s := s.taken) hj ha, State.startCut,
    BusUnit.startCut_of_not_pulsing _ (by exact hp)]
  rfl

/-- Settles O37: each failure is `State.failExchange`, and its report is that of a failed data phase or of a failed test
run. -/
theorem clockedFailureDemotes : Obligations.ClockedFailureDemotes := by
  intro s c e x he ha hc hcase
  obtain ⟨o, hframing, hexec⟩ : ∃ o : ExchangeOutcome, o.framing = true ∧ exec c s = .next (s.failExchange e o) := by
    have busy {l : List Activity} (hl : .pulsing ∉ l) (h : s.bus.activity ∈ l) : s.bus.activity ≠ .pulsing :=
      fun hp => hl (hp ▸ h)
    rcases hcase with ⟨rfl, ht⟩ | ⟨rfl, hact, hn⟩ | ⟨rfl, hact, hn⟩
    · exact ⟨.frameTimeout, rfl, congrArg Host.Outcome.next
        (State.onReport_undecided he ht (State.failExchange_keeps_busy e .frameTimeout))⟩
    · exact ⟨.frameError, rfl, congrArg Host.Outcome.next
        (State.onReport_takeNak_exceeding he (busy (by simp) hact) (by simpa using hact) hn)⟩
    · exact ⟨.frameError, rfl, congrArg Host.Outcome.next
        (State.onReport_takeNak_exceeding he (busy (by simp) hact) (by simpa using hact) hn)⟩
  obtain ⟨hstations, hactive⟩ := State.failExchange_reports (s := s) e o
  refine ⟨_, hexec, fun hdata hd => ?_, fun hk hp => ?_⟩ <;> rw [hstations, hactive]
  · have report : s.failureReports e o = s.reportPace e.station Station.phaseFailed := by
      have : e.inDataPhase = true := by simpa [Exchange.inDataPhase] using hdata
      simp [State.failureReports, hframing, hc, this]
    rw [report, State.reportPace_eq ha]
    exact ⟨fun hs => by simp [Station.phaseFailed, hd, hs], fun hs => by simp [Station.phaseFailed, hd, hs]⟩
  · have report : s.failureReports e o = s.reportPace e.station (Station.testReport · false) := by
      simp [State.failureReports, hframing, hc, Exchange.inDataPhase, Exchange.inTestRun, hk, hp]
    rw [report, State.reportPace_eq ha]
    simp [Station.testReport]

end

namespace Sys2Proof.Machine

/-! ### Answers (R25, R26, R27, R178) -/

section Answers
variable {s : State} {e : Exchange} {a : Answer}

theorem answerOfByte_eq (d : Byte) :
    answerOfByte d = { code := BitVec.ofNat 3 d.toNat, capability := d.getLsbD 3, ask := d.getLsbD 4 } := by
  rw [answerOfByte, setWidth_eq_ofNat]

theorem answerOfByte_code (d : Byte) : (answerOfByte d).code.toNat = d.toNat % 8 := by
  simp [answerOfByte]

/-- The answer is ACCEPT (R26). -/
theorem Answer.accepts_iff (a : Answer) : a.accepts = true ↔ a.code.toNat = 0 := by simp [Answer.accepts]

/-- The table of R26. -/
theorem Answer.validFor_iff (a : Answer) (k : ExchangeKind) : a.validFor k = true ↔
    a.code.toNat = 0 ∨ a.code.toNat = 1 ∨ (a.code.toNat = 2 ∧ k = .take) ∨
      (a.code.toNat ∈ [3, 4] ∧ k ∈ [.openChannel, .shut, .put, .take]) := by
  have hlt := a.code.isLt
  unfold Answer.validFor
  generalize a.code.toNat = n at hlt ⊢
  interval_cases n <;> simp [or_assoc]

theorem Exchange.paceAt_eq (e : Exchange) (a : Answer) (r : BitVec 2) : e.paceAt a r =
    if a.capability = true ∧ (e.paceRequest = true ∨ (e.kind = .probe ∧ e.length = 2)) then .clocked r else .basic := by
  simp [Exchange.paceAt]

/-- The context of an exchange with its answer and the pace fixed at it (R25). -/
def Exchange.answered (e : Exchange) (a : Answer) (rate : BitVec 2) : Exchange :=
  { e with answer := some a, pace := some (e.paceAt a rate) }

/-- A valid answer: an ACCEPT of a STATUS or TAKE leads to Inbound, any other to Handback (R28, R30 to R36). -/
theorem State.takeAnswer_valid (hv : a.validFor e.kind = true) : s.takeAnswer e a =
    if a.code.toNat = 0 ∧ e.kind ∈ [.status, .take] then
      (s.reportStation e.station (·.answerReport a)).enterInbound (e.answered a s.settings.clkRate)
    else (s.reportStation e.station (·.answerReport a)).enterHandback (e.answered a s.settings.clkRate) := by
  unfold State.takeAnswer
  dsimp only
  rw [hv, Bool.not_true, if_neg Bool.false_ne_true]
  by_cases ha : a.code.toNat = 0
  · rw [(Answer.accepts_iff a).mpr ha, Bool.not_true, if_neg Bool.false_ne_true]
    split
    next hk => rw [if_pos ⟨ha, by simp [hk]⟩]; rfl
    next hk => rw [if_pos ⟨ha, by simp [hk]⟩]; rfl
    next hs ht => rw [if_neg (by simpa [ha] using ⟨hs, ht⟩)]; rfl
  · have refused : a.accepts = false := Bool.eq_false_iff.mpr fun h => ha ((Answer.accepts_iff a).mp h)
    rw [refused, Bool.not_false, if_pos rfl, if_neg fun h => ha h.1]
    rfl

/-- A report on a station, and an answer taken, leave what becomes of a PUT's byte (R75). -/
theorem State.putBackByte_answered (i : StationIndex) (g : Station → Station) (r : BitVec 2) :
    ((s.reportStation i g).putBackByte (e.answered a r)).links = (s.putBackByte e).links := by
  unfold State.putBackByte
  rw [show (e.answered a r).kind = e.kind from rfl]
  split
  · unfold State.mapJobLink
    rw [show (s.reportStation i g).activeJob = s.activeJob from rfl]
    split <;> rfl
  · rfl

/-- An invalid answer is reported to the table, and is PROTOCOL-ERROR with a CUT (R25, R27). -/
theorem State.takeAnswer_invalid (hv : a.validFor e.kind = false) (hp : s.bus.activity ≠ .pulsing) :
    s.takeAnswer e a = { s with
      stations := s.stations.set e.station ((s.station e.station).answerReport a)
      exchange := some ((e.answered a s.settings.clkRate).failed .protocolError)
      bus := s.bus.inCut
      seq := if s.seq.state = .running ∧ s.inCensus = false then { s.seq with state := .cutting } else s.seq
      links := (s.putBackByte e).links } := by
  have step : s.takeAnswer e a = (s.reportStation e.station (·.answerReport a)).failExchange
      (e.answered a s.settings.clkRate) .protocolError := by
    simp [State.takeAnswer, Exchange.answered, hv]
  rw [step, State.failExchange_eq (by exact hp), State.failureReports_of_none (.inr rfl), State.putBackByte_answered]
  rfl

end Answers

end Sys2Proof.Machine

section
open Sys2Proof Sys2Proof.Machine

/-- Settles O38: a valid answer is one of the table of R26, and any other is the failure PROTOCOL-ERROR. -/
theorem answerResult : Obligations.AnswerResult := by
  constructor
  · intro s e d m he hact hvalid
    have hv : (answerOfByte d).validFor e.kind = true := by
      rw [Answer.validFor_iff, answerOfByte_code]; exact hvalid
    have step := State.takeAnswer_valid (s := s) hv
    refine congrArg Host.Outcome.next ((State.onReport_undecided he (by simp [hact]) ?_).trans ?_)
    · rw [step]; split <;> exact id
    · rw [step, answerOfByte_code]
      split <;> simp only [Exchange.answered, Exchange.paceAt_eq, answerOfByte_eq] <;> rfl
  · intro s e j x rest d m he hact hinvalid
    have hv : (answerOfByte d).validFor e.kind = false := by
      rw [Bool.eq_false_iff, ne_eq, Answer.validFor_iff, answerOfByte_code]
      rcases hinvalid with h | ⟨h, hk⟩ | ⟨h, hk⟩
      · simp only [List.mem_cons, List.not_mem_nil, or_false]; omega
      · simp [h, hk]
      · have : d.toNat % 8 = 3 ∨ d.toNat % 8 = 4 := by simpa using h
        have : e.kind = .status ∨ e.kind = .probe := by simpa using hk
        rcases this with hk | hk <;> simp only [hk] <;> simp <;> omega
    have step := State.takeAnswer_invalid (s := s) hv (by simp [hact])
    refine ⟨s.takeAnswer e (answerOfByte d), ?_, ?_, fun hk => ?_, fun hk hj ha => ?_⟩
    · refine congrArg Host.Outcome.next (State.onReport_undecided he (by simp [hact]) ?_)
      rw [step]
      dsimp only
      split
      · exact nofun
      · exact id
    · rw [step]
      simp only [Exchange.failed, Exchange.answered, Exchange.paceAt_eq, answerOfByte_eq]
      rfl
    · rw [step, State.putBackByte_of_not_put hk]
    · rw [step, State.putBackByte_links hk hj (by simp [ha])]

end

/-! # Frames received, frames sent and handbacks (R31 to R38, R94, R102 to R107, R114) -/

namespace Sys2Proof.Machine

section Wire
variable {s : State} {e : Exchange} {a : Answer} {j : Job} {x : JobContext} {rest : List Job}

/-! ### The outcome of an exchange at its job (R94) -/

/-- A COMPLETE exchange ends a job of one exchange (R94). -/
theorem State.jobOutcome_complete (h : s.activeJob = some (j, x)) (hk : j.kind ∉ [.put, .take, .census]) :
    s.jobOutcome e .complete =
      (s.setActive (some (x.withExchange e))).endJob .done (j.kind.cleanup (e.opens .complete)) := by
  simp only [List.mem_cons, List.not_mem_nil, or_false, not_or] at hk
  simp [State.jobOutcome, h, hk, JobContext.absorb_eq_withExchange]

/-- A COMPLETE exchange of a PUT or TAKE ends the job at a mark or at the limit (R103, R105). -/
theorem State.jobOutcome_data (h : s.activeJob = some (j, x)) (hk : j.kind = .put ∨ j.kind = .take) :
    s.jobOutcome e .complete = (s.setActive (some (x.withExchange e))).dataComplete j (x.withExchange e) := by
  have census : j.kind ≠ .census := by rcases hk with hk | hk <;> simp [hk]
  simp [State.jobOutcome, h, hk, census, JobContext.absorb_eq_withExchange]

/-- A PUT or TAKE short of a mark and of the limit stays between exchanges. -/
theorem State.jobOutcome_data_goes_on (h : s.activeJob = some (j, x)) (hk : j.kind = .put ∨ j.kind = .take)
    (hm : (x.withExchange e).msgEnd = false) (hl : (x.withExchange e).bytesMoved ≠ j.limit.toNat) :
    s.jobOutcome e .complete = s.setActive (some (x.withExchange e)) := by
  rw [State.jobOutcome_data h hk, State.dataComplete, if_neg]
  simp [hm, hl]

theorem State.jobOutcome_data_ends (h : s.activeJob = some (j, x)) (hk : j.kind = .put ∨ j.kind = .take)
    (hm : (x.withExchange e).msgEnd = true ∨ (x.withExchange e).bytesMoved = j.limit.toNat) :
    s.jobOutcome e .complete = s.afterJobEnd (j.endRecord (x.withExchange e) .done 0) := by
  rw [State.jobOutcome_data h hk, State.dataComplete, if_pos (by simpa using hm),
    State.endJob_keep (State.activeJob_setActive h _)]
  rfl

/-- An EMPTY answer ends a TAKE DONE, with the EMPTY flag (R33). -/
theorem State.jobOutcome_empty (h : s.activeJob = some (j, x)) (hk : j.kind = .take) :
    s.jobOutcome e .emptyAnswer =
      s.afterJobEnd (j.endRecord { x.withExchange e with emptyAnswer := true } .done 0) := by
  have step : s.jobOutcome e .emptyAnswer =
      (s.setActive (some { x.withExchange e with emptyAnswer := true })).endJob .done .keep := by
    simp [State.jobOutcome, h, hk, JobContext.absorb_eq_withExchange, JobKind.cleanup, State.setActive]
  rw [step, State.endJob_keep (State.activeJob_setActive h _)]
  rfl

/-- A BUSY answer, of any job but a CENSUS (R95). -/
theorem State.jobOutcome_busy (h : s.activeJob = some (j, x)) (hk : j.kind ≠ .census) :
    s.jobOutcome e .busy = (s.setActive (some (x.withExchange e))).busyOutcome j (x.withExchange e) := by
  simp [State.jobOutcome, h, hk, JobContext.absorb_eq_withExchange]

/-- An exchange that moved nothing leaves the job's counts (R94). -/
theorem JobContext.withExchange_of_nothing (hf : e.framesDone = 0) (hm : e.markReceived = false)
    (hs : e.statusByte = none) (ht : e.testResult = none) : x.withExchange e = x := by
  simp [JobContext.withExchange, hf, hm, hs, ht]

/-! ### Handbacks -/

/-- A handback that ends neither the job nor the scan: its effect is the next state. -/
theorem State.handback_undecided {t : State} (he : s.exchange = some e) (ha : s.bus.activity = .handback)
    (h : s.takeHandback e = t) (ht : t.seq = s.seq) : exec .handback s = .next t :=
  congrArg Host.Outcome.next ((State.onReport_undecided he (by simp [ha]) fun hq => ht ▸ h ▸ hq).trans h)

theorem Answer.accepts_of_code (h : a.code = 0) : a.accepts = true := by simp [Answer.accepts, h]

theorem Answer.refuses_of_code (h : a.code ≠ 0) : a.accepts = false := by
  simpa [Answer.accepts, ← BitVec.toNat_inj] using h

/-- The handback of a refusing answer ends the exchange with the answer's outcome (R28). -/
theorem State.takeHandback_refused {o : ExchangeOutcome} (ha : e.answer = some a) (hc : a.code ≠ 0) (ho : a.outcome = o) :
    s.takeHandback e = s.endExchange e o := by
  simp [State.takeHandback, ha, Answer.refuses_of_code hc, ho]

/-- The handback of an ACCEPT of an exchange with nothing to send ends it COMPLETE (R30, R31, R33). -/
theorem State.takeHandback_complete (ha : e.answer = some a) (hc : a.code = 0)
    (hk : e.kind ≠ .put ∧ (e.kind = .probe → e.length = 0)) : s.takeHandback e = s.endExchange e .complete := by
  simp only [State.takeHandback, ha, Answer.accepts_of_code hc]
  rw [Bool.not_true, if_neg Bool.false_ne_true]
  split
  next h => exact absurd h hk.1
  next h => rw [if_pos (hk.2 h)]
  next => rfl

theorem State.takeHandback_put (ha : e.answer = some a) (hc : a.code = 0) (hk : e.kind = .put) :
    s.takeHandback e = s.sendPutByte e := by
  simp [State.takeHandback, ha, Answer.accepts_of_code hc, hk]

theorem State.takeHandback_probe (ha : e.answer = some a) (hc : a.code = 0) (hk : e.kind = .probe) (hl : e.length ≠ 0) :
    s.takeHandback e = s.sendTest e := by
  simp only [State.takeHandback, ha, Answer.accepts_of_code hc, hk]
  exact if_neg hl

/-- A handback that ends the exchange of a Running job: the outcome reaches the job, and the arbiter decides (section 2.6,
R90). -/
theorem State.handback_ends (he : s.exchange = some e) (ha : s.bus.activity = .handback) (hw : s.bus.waiting = none)
    (hq : s.seq.state = .running) {o : ExchangeOutcome} (h : s.takeHandback e = s.endExchange e o) :
    exec .handback s = .next (State.decide (s.released.jobOutcome e o)) := by
  refine congrArg Host.Outcome.next ((State.onReport_eq he (by simp [ha]) _).trans ?_)
  rw [h, State.endExchange_of_running hw hq, State.settle_of_not_idle _ _ (by simp [hq])]

/-- A handback after which the job goes on: there is nothing to decide. -/
theorem State.handback_goes_on (he : s.exchange = some e) (ha : s.bus.activity = .handback) (hw : s.bus.waiting = none)
    (hq : s.seq.state = .running) {o : ExchangeOutcome} (h : s.takeHandback e = s.endExchange e o) {t : State}
    (hs : s.released.jobOutcome e o = t) (ht : t.seq.state ≠ .idle) : exec .handback s = .next t := by
  rw [State.handback_ends he ha hw hq h, hs, State.decide_of_not_idle _ ht]

/-! ### Frames sent -/

/-- The oldest byte of the Active job's ring goes in flight, and its frame is sent (R34, R75). -/
theorem State.sendPutByte_eq (h : s.activeJob = some (j, x)) {c : Cell} {newer : List Cell}
    (hr : (s.link j.linkIndex).ring = c :: newer) : s.sendPutByte e = { s with
      links := s.links.set j.linkIndex { s.link j.linkIndex with inFlight := true }
      exchange := some { e with phase := .outbound }
      bus := { s.bus with
        activity := .sending, nakCount := 0, timer := some { timer := .frame, units := s.settings.tFrame }
        frame := { data := c.byte, mark := c.marked } } } := by
  unfold State.sendPutByte State.mapJobLink
  rw [h]
  dsimp only
  split
  next hnil => rw [hr] at hnil; cases hnil
  next c' _ hcons =>
    obtain ⟨rfl, -⟩ := List.cons.inj (hcons.symm.trans hr)
    rfl

/-- The ACK of a PUT data frame removes the oldest byte and notes its mark (R35, R75). -/
theorem State.putRemoved_eq (hj : s.jobs = j :: rest) (ha : s.active = some x) {sent : Cell} {newer : List Cell}
    (hr : (s.link j.linkIndex).ring = sent :: newer) (m : Bool) :
    ((s.mapJobLink Link.putRemove).mapActive fun x => { x with msgEnd := x.msgEnd || m }) = { s with
      links := s.links.set j.linkIndex { s.link j.linkIndex with
        ring := newer
        start := ((s.link j.linkIndex).start + 1) % (256 * (s.link j.linkIndex).pages.length)
        total := (s.link j.linkIndex).total + 1, inFlight := false }
      active := some { x with msgEnd := x.msgEnd || m } } := by
  have removed : (s.link j.linkIndex).putRemove = { s.link j.linkIndex with
      ring := newer
      start := ((s.link j.linkIndex).start + 1) % (256 * (s.link j.linkIndex).pages.length)
      total := (s.link j.linkIndex).total + 1, inFlight := false } := by
    simp [Link.putRemove, Link.dropOldest, Link.count, Link.capacity, Config.pageBytes, hr]
  simp only [State.mapJobLink, State.activeJob_eq hj ha, removed]
  simp only [State.mapActive, State.setActive, State.setLink, State.setLinks, ha, Option.map_some]

/-- An ACK of a frame sent that ends neither the job nor the scan. -/
theorem State.ackRead_undecided {t : State} (he : s.exchange = some e) (ha : s.bus.activity = .sending)
    (h : s.takeAck e = t) (ht : t.seq = s.seq) : exec .ackRead s = .next t.nextMove := by
  refine congrArg Host.Outcome.next ((State.onReport_undecided he (by simp [ha]) fun hq => ?_).trans ?_)
  · rwa [State.nextMove_seq, h, ht] at hq
  · rw [h]

/-- An ACK of a frame sent that ends the exchange of a Running job: a mover channel may find work, and the arbiter decides
(R90, R158). -/
theorem State.ackRead_ends (he : s.exchange = some e) (ha : s.bus.activity = .sending) (hq : s.seq.state = .running)
    {t : State} (h : s.takeAck e = t) : exec .ackRead s = .next t.nextMove.decide := by
  refine congrArg Host.Outcome.next ((State.onReport_eq he (by simp [ha]) _).trans ?_)
  rw [h, State.settle_of_not_idle _ _ (by simp [hq])]

theorem State.takeAck_put (ha : s.bus.activity = .sending) (hk : e.kind = .put) :
    s.takeAck e = s.putByteSent e s.bus.frame.mark := by
  simp [State.takeAck, ha, hk]

theorem State.takeAck_probe (ha : s.bus.activity = .sending) (hk : e.kind = .probe) : s.takeAck e = s.testSent e := by
  simp [State.takeAck, ha, hk]

/-- "Clocked phase good" clears the streak of the station of a Clocked exchange (R48). -/
theorem State.goodPhase_eq (e : Exchange) : s.goodPhase e = { s with
    stations := if e.isClocked then s.stations.set e.station { s.station e.station with streak := false }
      else s.stations } := by
  unfold State.goodPhase
  split <;> rfl

/-- The state after the ACK of a PUT data frame, before what follows it: the oldest byte is gone (R35, R75). -/
def State.putRemoved (s : State) (j : Job) (x : JobContext) (newer : List Cell) (m : Bool) : State :=
  { s with
    links := s.links.set j.linkIndex { s.link j.linkIndex with
      ring := newer
      start := ((s.link j.linkIndex).start + 1) % (256 * (s.link j.linkIndex).pages.length)
      total := (s.link j.linkIndex).total + 1, inFlight := false }
    active := some { x with msgEnd := x.msgEnd || m } }

/-- An ACK before the last of the exchange sends the next byte (R35). -/
theorem State.putByteSent_next (hj : s.jobs = j :: rest) (ha : s.active = some x) {sent : Cell} {newer : List Cell}
    (hr : (s.link j.linkIndex).ring = sent :: newer) {m : Bool} (hn : e.framesDone + 1 ≠ e.length.toNat) :
    s.putByteSent e m = (s.putRemoved j x newer m).sendPutByte { e with framesDone := e.framesDone + 1 } := by
  unfold State.putByteSent
  rw [State.putRemoved_eq hj ha hr]
  exact if_neg (by simpa using hn)

/-- The last ACK of a PUT exchange: "Clocked phase good", and the exchange ends COMPLETE (R35, R38). -/
theorem State.putByteSent_last (hj : s.jobs = j :: rest) (ha : s.active = some x) {sent : Cell} {newer : List Cell}
    (hr : (s.link j.linkIndex).ring = sent :: newer) {m : Bool} (hn : e.framesDone + 1 = e.length.toNat) :
    s.putByteSent e m = ((s.putRemoved j x newer m).goodPhase { e with framesDone := e.framesDone + 1 }).endExchange
      { e with framesDone := e.framesDone + 1 } .complete := by
  unfold State.putByteSent
  rw [State.putRemoved_eq hj ha hr]
  exact if_pos (by simpa using hn)

/-- The first test frame has had its ACK: the second is sent (R36). -/
theorem State.testSent_first (h : e.testPassed = 0) :
    s.testSent e = s.sendTest { e with testPassed := 1 } := by
  simp [State.testSent, h]

/-- The test run has passed: a Clocked one clears demoted and the streak, with no notice, and the exchange ends COMPLETE
(R37, R50). -/
theorem State.testSent_second (h : e.testPassed = 1) (ha : s.active = some x) :
    s.testSent e = State.endExchange
      { s with stations := if e.isClocked
          then s.stations.set e.station { s.station e.station with demoted := false, streak := false } else s.stations }
      { e with testPassed := 2, testResult := some { clocked := e.isClocked, passed := true } } .complete := by
  have passed : (if e.isClocked then s.reportPace e.station (Station.testReport · true) else s) = { s with
      stations := if e.isClocked
        then s.stations.set e.station { s.station e.station with demoted := false, streak := false } else s.stations } := by
    split
    · simp [State.reportPace_eq ha, Station.testReport, ← ha]
    · rfl
  rw [← passed]
  unfold State.testSent
  dsimp only
  rw [h, if_neg (by simp)]
  rfl

/-! ### Frames received -/

/-- A frame taken that ends neither the job nor the scan. -/
theorem State.frameReceived_undecided {t : State} (he : s.exchange = some e) (ha : s.bus.activity = .receiving) {v : Byte}
    {m : Bool} (h : s.takeFrame e v m = t) (ht : t.seq.state = s.seq.state) : exec (.frameReceived v m) s = .next t :=
  congrArg Host.Outcome.next ((State.onReport_undecided he (by simp [ha]) fun hq => ht ▸ h ▸ hq).trans h)

/-- Outside a scan visit a status frame is no claim (R126). -/
theorem State.recordClaim_of_job (hq : s.seq.state = .running) (v : Byte) : s.recordClaim e v = s := by
  simp [State.recordClaim, hq]

/-- In a scan visit whose answer carried ask, a status frame makes its station the claimant (R126). -/
theorem State.recordClaim_of_visit (hq : s.seq.state = .scanning) {y : Scan} (hy : s.attention.scan = some y)
    (ha : e.answer = some a) (v : Byte) : s.recordClaim e v = { s with
      attention := { s.attention with
        scan := some { y with claim := if a.ask then some (e.station, v) else y.claim } } } := by
  simp only [State.recordClaim, hq, hy, ha]
  split
  · rfl
  · simp [← hy]

theorem State.takeFrame_status (hk : e.kind = .status) (v : Byte) (m : Bool) : s.takeFrame e v m = s.takeStatus e v := by
  simp [State.takeFrame, hk]

theorem State.takeFrame_take (hk : e.kind = .take) (v : Byte) (m : Bool) :
    s.takeFrame e v m = (s.takeData e v m).nextMove := by
  simp [State.takeFrame, hk]

/-- A TAKE data frame joins the ring of the Active job's link (R32, R76). -/
theorem State.takeAppended_eq (hj : s.jobs = j :: rest) (ha : s.active = some x) (v : Byte) (m : Bool) :
    (s.mapJobLink fun l => l.takeAppend v m) = { s with
      links := s.links.set j.linkIndex { s.link j.linkIndex with
        ring := (s.link j.linkIndex).ring ++ [{ byte := v, marked := m }], messageOpen := !m
        total := (s.link j.linkIndex).total + 1 } } := by
  simp only [State.mapJobLink, State.activeJob_eq hj ha]
  rfl

/-- The end of a job of any kind but CENSUS, with the flags of its context (R114). -/
theorem Job.endRecord_eq (hk : j.kind ≠ .census) (x : JobContext) (r : JobResult) (held : Nat) :
    j.endRecord x r held =
      { kind := .job j.kind, source := j.tag, result := .code r, count := BitVec.ofNat 16 (j.eventCount x held),
        detail := j.eventDetail x held, flags := x.flagByte } := by
  rw [← Job.event_eq_endRecord]
  cases h : j.kind <;> simp_all [Job.event, Job.eventFlags]

end Wire

end Sys2Proof.Machine

section
open Sys2Proof Sys2Proof.Machine

/-- Settles O39: a status frame goes to the station table and to the claim, a data frame to the ring of the job's link. -/
theorem receivedFrameResult : Obligations.ReceivedFrameResult := by
  refine ⟨?visit, ?status, ?data⟩
  case visit =>
    intro s e a x v m he hk hact ha hx hq
    refine State.frameReceived_undecided he hact ?_ rfl
    rw [State.takeFrame_status hk, State.takeStatus,
      State.recordClaim_of_visit (s := s.reportStation _ _) (by exact hq) (by exact hx) ha]
    rfl
  case status =>
    intro s e a j x rest v m he hk hq
    constructor
    · intro hact
      refine State.frameReceived_undecided he hact ?_ rfl
      rw [State.takeFrame_status hk, State.takeStatus, State.recordClaim_of_job (s := s.reportStation _ _) (by exact hq)]
      rfl
    · intro hact hw ha hc hj hlen hx hjk hv
      have hjob : s.released.activeJob = some (j, x) := State.activeJob_eq hj hx
      have keep : j.kind.cleanup (e.opens .complete) = .keep := by rw [hjk]; rfl
      rw [State.handback_ends he hact hw hq (State.takeHandback_complete ha hc (by simp [hk])),
        State.jobOutcome_complete hjob (by simp [hjk]), keep, State.endJob_keep (State.activeJob_setActive hjob _)]
      rfl
  case data =>
    intro s e j x rest l v m he hk hact hj hx hl
    subst hl
    have appended := State.takeAppended_eq hj hx v m
    constructor
    · intro hm hn
      subst hm
      refine State.frameReceived_undecided he hact ?_ (State.nextMove_seq _)
      rw [State.takeFrame_take hk, State.takeData, appended]
      dsimp only
      rw [if_neg (by simpa using hn), Bool.or_false]
      rfl
    · intro hend
      refine State.frameReceived_undecided he hact ?_ (State.nextMove_seq _)
      rw [State.takeFrame_take hk, State.takeData, appended]
      dsimp only
      rw [if_pos (by simpa using hend), State.goodPhase_eq]
      rfl

/-- Settles O40: the handback and each ACK but the last send the oldest byte of the ring. -/
theorem putSendsBytesInOrder : Obligations.PutSendsBytesInOrder := by
  constructor
  · intro s e a j x rest cell newer he hk hact ha hc hj hx hr
    refine State.handback_undecided he hact ?_ rfl
    rw [State.takeHandback_put ha hc hk, State.sendPutByte_eq (State.activeJob_eq hj hx) hr]
  · intro s e j x rest sent next newer he hk hact hj hx hr hn
    refine State.ackRead_undecided he hact ?_ rfl
    have link : (s.putRemoved j x (next :: newer) s.bus.frame.mark).link j.linkIndex = _ := State.link_setLink_same s _ _
    rw [State.takeAck_put hact hk, State.putByteSent_next hj hx hr hn,
      State.sendPutByte_eq (State.activeJob_eq (by exact hj) rfl) (by rw [link])]
    rw [link, ← hact]
    simp [State.putRemoved]

/-- Settles O41: the exchange's bytes reach the job's count, and the job ends at a mark or at its limit. -/
theorem lastPutAckEndsExchange : Obligations.LastPutAckEndsExchange := by
  intro s e j x rest sent newer base he hk hn hm hs ht hact hw hq hj hlen hx hjk hr hbase
  have counts : JobContext.withExchange { x with msgEnd := x.msgEnd || s.bus.frame.mark }
      { e with framesDone := e.framesDone + 1 } =
      { x with msgEnd := x.msgEnd || s.bus.frame.mark, bytesMoved := x.bytesMoved + e.length.toNat } := by
    simp [JobContext.withExchange, hm, hs, ht, hn]
  subst hbase
  have step : s.takeAck e = _ := (State.takeAck_put hact hk).trans (State.putByteSent_last hj hx hr hn.symm)
  rw [State.goodPhase_eq, State.endExchange_of_running (by exact hw) (by exact hq)] at step
  constructor
  · rintro ⟨hend, hmark, hlimit⟩
    refine State.ackRead_undecided he hact (step.trans ?_) rfl
    rw [State.jobOutcome_data_goes_on (State.activeJob_eq (by exact hj) rfl) (.inl hjk) (by rw [counts]; simp [hend, hmark])
      (by rw [counts]; exact hlimit), counts]
    rfl
  · intro hend
    refine State.ackRead_ends he hact hq (step.trans ?_)
    rw [State.jobOutcome_data_ends (State.activeJob_eq (by exact hj) rfl) (.inl hjk)
      (by rw [counts]; simpa [or_assoc] using hend), counts, Job.endRecord_eq (by simp [hjk])]
    simp only [Job.eventCount, Job.eventDetail, hjk]
    rfl

/-- Settles O42: each ACK of a test frame, and the handback, send the next one or end the exchange COMPLETE. -/
theorem probeTestFrames : Obligations.ProbeTestFrames := by
  constructor
  · intro s e j x rest he hk hact hj hx
    constructor
    · intro hp
      refine State.ackRead_undecided he hact ?_ rfl
      rw [State.takeAck_probe hact hk, State.testSent_first hp, State.sendTest, State.sendFrame, BusUnit.send, ← hact]
      rfl
    · intro hp hq hw hlen hjk hf hm hs htc
      have counts : x.withExchange
          { e with testPassed := 2, testResult := some { clocked := e.isClocked, passed := true } } =
          { x with probe := if e.isClocked then .clocked else .basic, testClk := e.isClocked } := by
        cases hc : e.isClocked <;> simp [JobContext.withExchange, hf, hm, hs, htc]
      have keep (b : Bool) : j.kind.cleanup b = .keep := by rw [hjk]; rfl
      have detail (y : JobContext) (hy : y.probe = if e.isClocked then .clocked else .basic) :
          j.eventDetail y 0 = if e.isClocked then 2 else 1 := by
        simp only [Job.eventDetail, hjk, hy]; split <;> rfl
      refine State.ackRead_ends he hact hq ?_
      rw [State.takeAck_probe hact hk, State.testSent_second hp hx,
        State.endExchange_of_running (by exact hw) (by exact hq),
        State.jobOutcome_complete (State.activeJob_eq (by exact hj) (by exact hx)) (by simp [hjk]), keep,
        State.endJob_keep (State.activeJob_setActive (State.activeJob_eq (by exact hj) (by exact hx)) _), counts,
        Job.endRecord_eq (by simp [hjk]), detail _ rfl, Job.eventCount, hjk]
      rfl
  · intro s e a j x rest he hk hact ha hc
    constructor
    · intro hl hp
      refine State.handback_undecided he hact ?_ rfl
      rw [State.takeHandback_probe ha hc hk (by simp [hl]), State.sendTest, hp]
      rfl
    · intro hl hq hw hj hlen hx hjk hf hm hs ht hpr
      have hjob : s.released.activeJob = some (j, x) := State.activeJob_eq hj hx
      have keep : j.kind.cleanup (e.opens .complete) = .keep := by rw [hjk]; rfl
      rw [State.handback_ends he hact hw hq (State.takeHandback_complete ha hc (by simp [hk, hl])),
        State.jobOutcome_complete hjob (by simp [hjk]), keep, State.endJob_keep (State.activeJob_setActive hjob _),
        JobContext.withExchange_of_nothing hf hm hs ht, Job.endRecord_eq (by simp [hjk])]
      simp only [Job.eventCount, Job.eventDetail, hjk, hpr]
      rfl

end

/-! # Handbacks of BUSY, of links and of refusals (R28, R30, R33, R64 to R67, R94 to R96) -/

namespace Sys2Proof.Machine

section Handbacks
variable {s : State} {e : Exchange} {a : Answer} {j : Job} {x : JobContext}

/-! ### A BUSY outcome (R95, R96) -/

theorem State.busyOutcome_holds (hn : x.busyCount + 1 ≤ s.settings.busyLimit.toNat) (hd : s.settings.busyDelay ≠ 0) :
    s.busyOutcome j x = { s with
      active := some { x with busyCount := x.busyCount + 1 }
      seq := { s.seq with state := .holding, holdMs := s.settings.busyDelay } } := by
  rw [State.busyOutcome, if_neg (Nat.not_lt.mpr hn), if_neg hd]
  rfl

/-- With a delay of 0 the repeat exchange begins at once (R96). -/
theorem State.busyOutcome_repeats (hn : x.busyCount + 1 ≤ s.settings.busyLimit.toNat) (hd : s.settings.busyDelay = 0) :
    s.busyOutcome j x = (s.setActive (some { x with busyCount := x.busyCount + 1 })).startExchange false := by
  rw [State.busyOutcome, if_neg (Nat.not_lt.mpr hn), if_pos hd]

theorem State.busyOutcome_ends (hn : s.settings.busyLimit.toNat < x.busyCount + 1) :
    s.busyOutcome j x =
      (s.setActive (some { x with busyCount := x.busyCount + 1 })).endJob .busyLimit (j.kind.cleanup false) := by
  rw [State.busyOutcome, if_pos hn]

/-- Past the busy limit the job ends BUSY-LIMIT with its kind's cleanup (R64, R66, R95). -/
theorem State.jobOutcome_busyLimit (h : s.activeJob = some (j, x)) (hk : j.kind ≠ .census)
    (hn : s.settings.busyLimit.toNat < x.busyCount + 1) : s.jobOutcome e .busy =
      (s.setActive (some { x.withExchange e with busyCount := x.busyCount + 1 })).endJob .busyLimit
        (j.kind.cleanup false) := by
  rw [State.jobOutcome_busy h hk, State.busyOutcome_ends (by exact hn)]
  rfl

/-! ### A COMPLETE outcome (R30, R64, R114) -/

/-- An accepted OPEN that ends COMPLETE gives "opened" (R64). -/
theorem Exchange.opens_complete (ha : e.answer = some a) (hc : a.code = 0) : e.opens .complete = true := by
  rw [Exchange.opens, Exchange.accepted_eq, ha]
  simp [hc]

/-- An exchange that received no mark and ran no test leaves the job's flags (R114). -/
theorem JobContext.flagByte_withExchange (hm : e.markReceived = false) (ht : e.testResult = none) :
    (x.withExchange e).flagByte = x.flagByte := by
  simp [JobContext.flagByte, JobContext.withExchange, hm, ht]

end Handbacks

end Sys2Proof.Machine

section
open Sys2Proof Sys2Proof.Machine

/-- Settles O43: the busy count against BUSY-LIMIT, then BUSY-DELAY, decide what follows a BUSY answer. -/
theorem busyHandback : Obligations.BusyHandback := by
  have busy {s : State} {e : Exchange} {a : Answer} (ha : e.answer = some a) (hc : a.code = 1) :
      s.takeHandback e = s.endExchange e .busy :=
    State.takeHandback_refused ha (by simp [hc]) (by simp [Answer.outcome, hc])
  constructor
  · intro s e r a j x rest he hact hw ha hc hf hm hs ht hq hj hlen hx
    have hjob : s.released.activeJob = some (j, x) := State.activeJob_eq hj hx
    have counts : x.withExchange e = x := JobContext.withExchange_of_nothing hf hm hs ht
    refine ⟨fun hk hn hd => ?hold, fun hk hn hd hr => ?again, fun hn => ⟨fun hk => ?keep, fun hk hh => ?close⟩⟩
    case hold =>
      refine State.handback_goes_on he hact hw hq (busy ha hc) ?_ (by simp)
      rw [State.jobOutcome_busy hjob hk, counts, State.busyOutcome_holds (by exact hn) (by exact hd)]
      rfl
    case again =>
      refine State.handback_goes_on he hact hw hq (busy ha hc) ?_ (by simp [hq])
      rw [State.jobOutcome_busy hjob hk, counts, State.busyOutcome_repeats (by exact hn) (by exact hd),
        State.startExchange_of_next (State.activeJob_eq (by exact hj) rfl) (by exact hr) false,
        State.beginExchange_of_free rfl]
      rfl
    case keep =>
      have hkind : j.kind.cleanup false = .keep ∧ j.kind ≠ .census := by
        cases h : j.kind <;> simp [h] at hk <;> exact ⟨rfl, by simp⟩
      rw [State.handback_ends he hact hw hq (busy ha hc), State.jobOutcome_busyLimit hjob hkind.2 (by exact hn), counts,
        hkind.1, State.endJob_keep (State.activeJob_setActive hjob _)]
      rfl
    case close =>
      obtain ⟨hclose, hcensus⟩ := JobKind.cleanup_close (k := j.kind) (b := false) (by simpa [or_comm] using hk)
      rw [State.handback_ends he hact hw hq (busy ha hc), State.jobOutcome_busyLimit hjob hcensus (by exact hn), counts,
        hclose, State.endJob_close_unbound (State.activeJob_setActive hjob _) (by exact hh)]
      rfl
  · intro s e a j x rest c he hact hw ha hc hq hj hlen hx hn hk hh hr
    have hjob : s.released.activeJob = some (j, x) := State.activeJob_eq hj hx
    obtain ⟨hclose, hcensus⟩ := JobKind.cleanup_close (k := j.kind) (b := false) (by simpa [or_comm] using hk)
    refine ⟨_, ?_, State.handback_ends he hact hw hq (busy ha hc)⟩
    rw [State.jobOutcome_busyLimit hjob hcensus (by exact hn), hclose]
    exact State.endJob_close_bound (State.activeJob_setActive hjob _) hh hr _ _

/-- Settles O44: the handback's outcome goes to the Active job, which ends with its kind's cleanup or goes on. -/
theorem linkJobHandbacks : Obligations.LinkJobHandbacks := by
  refine ⟨?opened, ?shut, ?shutBound, ?take, ?refused⟩
  case opened =>
    intro s e a j x rest he hk hact hw ha hc hq hj hlen hx hjk hf hm ht
    have hjob : s.released.activeJob = some (j, x) := State.activeJob_eq hj hx
    have opened : j.kind.cleanup (e.opens .complete) = .opened := by rw [hjk, Exchange.opens_complete ha hc]; rfl
    rw [State.handback_ends he hact hw hq (State.takeHandback_complete ha hc (by simp [hk])),
      State.jobOutcome_complete hjob (by simp [hjk]), opened, State.endJob_opened (State.activeJob_setActive hjob _),
      Job.endRecord_eq (by simp [hjk]), JobContext.flagByte_withExchange hm ht, Job.eventCount, Job.eventDetail, hjk]
    rfl
  case shut =>
    intro s e a j x rest he hk hact hw ha hc hq hj hlen hx hjk hm ht hh
    have hjob : s.released.activeJob = some (j, x) := State.activeJob_eq hj hx
    have close : j.kind.cleanup (e.opens .complete) = .close .link := by rw [hjk]; rfl
    rw [State.handback_ends he hact hw hq (State.takeHandback_complete ha hc (by simp [hk])),
      State.jobOutcome_complete hjob (by simp [hjk]), close,
      State.endJob_close_unbound (State.activeJob_setActive hjob _) (by exact hh),
      Job.endRecord_eq (by simp [hjk]), JobContext.flagByte_withExchange hm ht, Job.eventCount, Job.eventDetail, hjk]
    rfl
  case shutBound =>
    intro s e a j x rest c he hk hact hw ha hc hq hj hlen hx hjk hh hr
    have hjob : s.released.activeJob = some (j, x) := State.activeJob_eq hj hx
    have close : j.kind.cleanup (e.opens .complete) = .close .link := by rw [hjk]; rfl
    refine ⟨_, ?_, State.handback_ends he hact hw hq (State.takeHandback_complete ha hc (by simp [hk]))⟩
    rw [State.jobOutcome_complete hjob (by simp [hjk]), close]
    exact State.endJob_close_bound (State.activeJob_setActive hjob _) hh hr _ _
  case take =>
    intro s e a j x y rest he hk hact hw ha hq hj hlen hx hjk hy hs ht
    have hjob : s.released.activeJob = some (j, x) := State.activeJob_eq hj hx
    have counts : x.withExchange e = y := by simp [JobContext.withExchange, hs, ht, hy]
    have complete (hc : a.code = 0) := State.takeHandback_complete (s := s) ha hc (by simp [hk])
    subst counts
    refine ⟨fun hc hend => ?_, fun hc hm hl => ?_, fun hc => ?_⟩
    · rw [State.handback_ends he hact hw hq (complete hc), State.jobOutcome_data_ends hjob (.inr hjk) hend]
      rfl
    · refine State.handback_goes_on he hact hw hq (complete hc)
        (State.jobOutcome_data_goes_on hjob (.inr hjk) hm hl) ?_
      exact fun h => absurd (hq.symm.trans h) (by simp)
    · have empty : s.takeHandback e = s.endExchange e .emptyAnswer :=
        State.takeHandback_refused ha (by simp [hc]) (by simp [Answer.outcome, hc])
      rw [State.handback_ends he hact hw hq empty, State.jobOutcome_empty hjob hjk]
      rfl
  case refused =>
    intro s base e a j x rest c r he hact hw ha hq hj hlen hx hcase hbase
    subst hbase
    have hjob : s.released.activeJob = some (j, x) := State.activeJob_eq hj hx
    obtain ⟨o, hend, fails, rfl, hturn⟩ : ∃ o, s.takeHandback e = s.endExchange e o ∧ o.fails ∧ o.result = r ∧
        o ≠ .turnError := by
      rcases hcase with ⟨hc, rfl⟩ | ⟨hc, rfl⟩
      · exact ⟨.noChannel, State.takeHandback_refused ha (by simp [hc]) (by simp [Answer.outcome, hc]),
          by simp [ExchangeOutcome.fails], rfl, by simp⟩
      · exact ⟨.wrongState, State.takeHandback_refused ha (by simp [hc]) (by simp [Answer.outcome, hc]),
          by simp [ExchangeOutcome.fails], rfl, by simp⟩
    have close (hk : j.kind ∈ [.openLink, .shut]) : j.kind = .shut ∨ (j.kind = .openLink ∧ e.opens o = false) := by
      rw [Exchange.opens_of_fails fails (by simp [hturn])]; simpa [or_comm] using hk
    refine ⟨fun hk => ?_, fun hk hh => ?_, fun hk hh hr => ?_⟩
    · rw [State.handback_ends he hact hw hq hend, State.jobOutcome_keep hjob (List.mem_append_left [JobKind.status, JobKind.probe] hk) fails]
      rfl
    · rw [State.handback_ends he hact hw hq hend, State.jobOutcome_close hjob (close hk) fails (by exact hh)]
      rfl
    · exact ⟨_, State.jobOutcome_close_bound (s := s.released) hjob (close hk) fails hh hr,
        State.handback_ends he hact hw hq hend⟩

end

/-! # DATA writes that are checked: selectors, P-LINK and the registers of a mover channel (R56, R82, R144, R156, R173) -/

namespace Sys2Proof.Machine

section CheckedWrites
variable {s t : State} {r : Reg} {v : Byte} {c : Chan}

/-- A DATA write that is stored, with CFG.STEP as it was: CMDERR is cleared and INDEX steps (R171, R176). -/
theorem State.dataWrite_stored (hr : regOfIndex s.window.index = some r) (hw : s.writeReg r v = .stored t)
    (hg : t.settings = s.settings) :
    s.dataWrite v = { t with window := t.window.afterTaken s.settings.step } := by
  simp only [State.dataWrite, hr, hw, State.autoStep, State.taken, Window.afterTaken, State.setWindow, hg]
  cases s.settings.step <;> rfl

/-- A DATA write that is refused changes CMDERR and REFUSE alone, and INDEX steps (R171, R173, R176). -/
theorem State.dataWrite_refused {e : Reason} (hr : regOfIndex s.window.index = some r) (hw : s.writeReg r v = .refused e) :
    s.dataWrite v = { s with window := s.window.afterRefused s.settings.step e } := by
  simp only [State.dataWrite, hr, hw, State.autoStep, State.refuse, Window.afterRefused, State.setWindow]
  cases s.settings.step <;> rfl

/-- A DATA write of a value that has a range: stored in it, refused BAD-VALUE out of it (R173). -/
theorem State.dataWrite_ranged {n : Nat} {f : Fin n → State} (hr : regOfIndex s.window.index = some r)
    (hw : s.writeReg r v = if h : v.toNat < n then .stored (f ⟨v.toNat, h⟩) else .refused .badValue)
    (hf : ∀ i, (f i).settings = s.settings) :
    s.dataWrite v = if h : v.toNat < n then
        { f ⟨v.toNat, h⟩ with window := (f ⟨v.toNat, h⟩).window.afterTaken s.settings.step }
      else { s with window := s.window.afterRefused s.settings.step .badValue } := by
  split
  next h => exact State.dataWrite_stored hr (hw.trans (dif_pos h)) (hf _)
  next h => exact State.dataWrite_refused hr (hw.trans (dif_neg h))

/-- A register of a channel that can be written is refused while the channel runs, whatever the value (R156, R173). -/
theorem State.writeReg_mover_running {m : MoverReg} (hm : m ≠ .state) (hrun : (s.chan c).running = true) :
    s.writeReg (.mover c m) v = .refused .channelRunning := by
  simp [State.writeReg, State.writeMoverReg, hm, hrun]

/-- What a write of a register stores in an Idle channel: a byte of its address or of its count, or its mode (R156). -/
def Channel.written (ch : Channel) (v : Byte) : MoverReg → Channel
  | .addrL => { ch with addr := BitVec.ofNat 16 (256 * (ch.addr.toNat / 256) + v.toNat) }
  | .addrH => { ch with addr := BitVec.ofNat 16 (256 * v.toNat + ch.addr.toNat % 256) }
  | .countL => { ch with count := BitVec.ofNat 16 (256 * (ch.count.toNat / 256) + v.toNat) }
  | .countH => { ch with count := BitVec.ofNat 16 (256 * v.toNat + ch.count.toNat % 256) }
  | .mode => { ch with mode := v.getLsbD 0 }
  | _ => ch

/-- MA-LINK alone checks the value written to an Idle channel (R156). -/
theorem State.writeReg_mover_idle {m : MoverReg} (hm : m ≠ .link ∧ m ≠ .state) (hidle : (s.chan c).running = false) :
    s.writeReg (.mover c m) v = .stored (s.setChan c ((s.chan c).written v m)) := by
  obtain ⟨hlink, hstate⟩ := hm
  cases m
  case link => exact absurd rfl hlink
  case state => exact absurd rfl hstate
  all_goals simp [State.writeReg, State.writeMoverReg, hidle, withLowByte, withHighByte, highByte_toNat, lowByte_toNat,
    Channel.written]

/-- A DATA write of a register of a channel that takes any value: stored while the channel is Idle (R156, R173). -/
theorem State.dataWrite_mover {m : MoverReg} (hr : regOfIndex s.window.index = some (.mover c m))
    (hm : m ≠ .link ∧ m ≠ .state) :
    s.dataWrite v =
      if (s.chan c).running then { s with window := s.window.afterRefused s.settings.step .channelRunning }
      else { s with
        mover := s.mover.setChan c ((s.chan c).written v m), window := s.window.afterTaken s.settings.step } := by
  split
  next hrun => exact State.dataWrite_refused hr (State.writeReg_mover_running hm.2 hrun)
  next hidle => exact State.dataWrite_stored hr (State.writeReg_mover_idle hm (Bool.eq_false_iff.mpr hidle)) rfl

/-- The link of a mover channel: CHANNEL-RUNNING comes before BAD-VALUE (R156, R173). -/
theorem State.dataWrite_moverLink (hr : regOfIndex s.window.index = some (.mover c .link)) :
    s.dataWrite v =
      if (s.chan c).running then { s with window := s.window.afterRefused s.settings.step .channelRunning }
      else if h : v.toNat < 12 then
        { s with
          mover := s.mover.setChan c { s.chan c with link := ⟨v.toNat, h⟩ }
          window := s.window.afterTaken s.settings.step }
      else { s with window := s.window.afterRefused s.settings.step .badValue } := by
  split
  next hrun => exact State.dataWrite_refused hr (State.writeReg_mover_running (by simp) hrun)
  next hidle =>
    exact State.dataWrite_ranged (f := fun i => s.setChan c { s.chan c with link := i }) hr
      (by simp [State.writeReg, State.writeMoverReg, hidle]) fun _ => rfl

end CheckedWrites

end Sys2Proof.Machine

section
open Sys2Proof Sys2Proof.Machine

/-- Settles O8: each write is stored or refused by the check of its register. -/
theorem checkedWrites : Obligations.CheckedWrites := by
  constructor
  · intro s v hs
    have reg {k : BitVec 6} {r : Reg} (hi : s.window.index = k) (hr : regOfIndex k = some r) :
        regOfIndex s.window.index = some r := by rw [hi, hr]
    refine ⟨fun hi => ?_, fun hi => ?_, fun hi => ?_⟩ <;>
      refine (onWindow_open (·.dataWrite v) hs).trans (congrArg Host.Outcome.next ?_)
    · exact State.dataWrite_ranged (f := fun i => s.setWindow { s.window with sSel := i }) (reg hi rfl) rfl fun _ => rfl
    · exact State.dataWrite_ranged (f := fun i => s.setWindow { s.window with lSel := i }) (reg hi rfl) rfl fun _ => rfl
    · exact State.dataWrite_ranged (f := fun i => s.setPort { s.port with link := i, last := false }) (reg hi rfl) rfl
        fun _ => rfl
  · intro s c v hs
    refine ⟨fun hi => ?_, fun hlo hhi => ?_⟩ <;>
      refine (onWindow_open (·.dataWrite v) hs).trans (congrArg Host.Outcome.next ?_)
    · have hr : regOfIndex (BitVec.ofNat 6 (48 + 8 * chanCode c)) = some (.mover c .link) := by cases c <;> rfl
      exact State.dataWrite_moverLink (by rw [State.index_eq hi, hr])
    · obtain ⟨k, hk⟩ : ∃ k : Fin 5, s.window.index.toNat = 49 + k.val + 8 * chanCode c :=
        ⟨⟨s.window.index.toNat - 49 - 8 * chanCode c, by omega⟩, by simp only; omega⟩
      have store {m : MoverReg} (hm : m ≠ .link ∧ m ≠ .state)
          (hr : regOfIndex (BitVec.ofNat 6 (49 + k.val + 8 * chanCode c)) = some (.mover c m)) :=
        State.dataWrite_mover (s := s) (v := v) (by rw [State.index_eq hk, hr]) hm
      rw [hk, Nat.add_sub_cancel]
      fin_cases k
      · exact store (m := .addrL) (by simp) (by cases c <;> rfl)
      · exact store (m := .addrH) (by simp) (by cases c <;> rfl)
      · exact store (m := .countL) (by simp) (by cases c <;> rfl)
      · exact store (m := .countH) (by simp) (by cases c <;> rfl)
      · exact store (m := .mode) (by simp) (by cases c <;> rfl)

end

/-! # Reports to the station table: answer timeouts and Clocked phases good (R46, R48)

Only a report changes an entry. What an event does beside its reports leaves the station table as it was. -/

namespace Sys2Proof.Machine

section Stations
variable (s : State)

/-! ### What makes no report: links, channels, the event queue and the job context -/

@[simp] theorem State.stations_setLink (i x) : (s.setLink i x).stations = s.stations := rfl
@[simp] theorem State.stations_setSeqState (q) : (s.setSeqState q).stations = s.stations := rfl
@[simp] theorem State.stations_mapActive (f) : (s.mapActive f).stations = s.stations := rfl
@[simp] theorem State.stations_busToFree : s.busToFree.stations = s.stations := rfl
@[simp] theorem State.stations_beginExchange (e) : (s.beginExchange e).stations = s.stations := rfl
@[simp] theorem State.stations_beginVisit (x i) : (s.beginVisit x i).stations = s.stations := rfl
@[simp] theorem State.stations_enterHandback (e) : (s.enterHandback e).stations = s.stations := rfl

@[simp] theorem State.stations_postAmong (k h e) : (s.postAmong k h e).stations = s.stations := by
  unfold State.postAmong; split <;> rfl

@[simp] theorem State.stations_leaveQueue : s.leaveQueue.stations = s.stations := by
  unfold State.leaveQueue State.setQroomOnFall; split <;> rfl

@[simp] theorem State.stations_judgeLatch : s.judgeLatch.stations = s.stations := by
  unfold State.judgeLatch; split <;> rfl

@[simp] theorem State.stations_mapJobLink (f) : (s.mapJobLink f).stations = s.stations := by
  unfold State.mapJobLink; split <;> rfl

@[simp] theorem State.stations_stopChannel (c r) : (s.stopChannel c r).stations = s.stations := by
  rcases s.stopChannel_cases c r with ⟨-, h⟩ | ⟨-, -, h⟩ | ⟨-, -, h⟩ <;> rw [h] <;> rfl

@[simp] theorem State.stations_closeLink (i r) : (s.closeLink i r).stations = s.stations := by
  unfold State.closeLink; dsimp only; split
  · exact State.stations_stopChannel ..
  · rfl

@[simp] theorem State.stations_shutOpenLink (i) : (s.shutOpenLink i).stations = s.stations := by
  unfold State.shutOpenLink; dsimp only; split
  · exact State.stations_stopChannel ..
  · rfl

@[simp] theorem State.stations_cleanUp (i c) : (s.cleanUp i c).1.stations = s.stations := by
  cases c
  case close r => exact s.stations_closeLink i r
  all_goals rfl

@[simp] theorem State.stations_startMove (c) : (s.startMove c).stations = s.stations := by
  unfold State.startMove; dsimp only; split
  · rfl
  · split <;> rfl

@[simp] theorem State.stations_nextMove : s.nextMove.stations = s.stations := by
  unfold State.nextMove; split
  · split
    · exact State.stations_startMove ..
    · rfl
  · rfl

/-! ### What makes no report: the starts and ends of jobs and scans, and the arbiter -/

@[simp] theorem State.stations_endJobSince (n r c) : (s.endJobSince n r c).stations = s.stations := by
  unfold State.endJobSince; split <;> simp

@[simp] theorem State.stations_endJob (r c) : (s.endJob r c).stations = s.stations := s.stations_endJobSince _ r c

@[simp] theorem State.stations_startPut (j x) : (s.startPut j x).stations = s.stations := by
  unfold State.startPut; dsimp only; split
  · simp
  · split <;> simp

@[simp] theorem State.stations_startTake (j x later) : (s.startTake j x later).stations = s.stations := by
  unfold State.startTake; dsimp only; split <;> simp

@[simp] theorem State.stations_startExchange (later) : (s.startExchange later).stations = s.stations := by
  unfold State.startExchange; split
  · rfl
  next j x _ => cases j.kind <;> simp

theorem State.stations_openClaim {t : State} {i st ch d n} (h : s.openClaim i st ch d n = .ok t) :
    t.stations = s.stations := by
  unfold State.openClaim at h
  split at h
  · cases h
  split at h
  · cases h
  split at h <;> cases h
  rfl

@[simp] theorem State.stations_startOpen (j) : (s.startOpen j).stations = s.stations := by
  unfold State.startOpen; split
  · simp
  next t ht => rw [State.stations_startExchange, s.stations_openClaim ht]

@[simp] theorem State.stations_startShut (j) : (s.startShut j).stations = s.stations := by
  unfold State.startShut; split <;> simp

@[simp] theorem State.stations_startJob : s.startJob.stations = s.stations := by
  unfold State.startJob; split
  · rfl
  next j _ _ =>
    dsimp only
    cases j.kind
    case openLink => exact State.stations_startOpen ..
    case shut => exact State.stations_startShut ..
    case busReset => rfl
    all_goals exact State.stations_startExchange ..

@[simp] theorem State.stations_endScanClaimed (x i v r) : (s.endScanClaimed x i v r).stations = s.stations :=
  State.stations_judgeLatch _

@[simp] theorem State.stations_endScanUnclaimed (x) : (s.endScanUnclaimed x).stations = s.stations :=
  State.stations_judgeLatch _

@[simp] theorem State.stations_startScan : s.startScan.stations = s.stations := by
  unfold State.startScan; dsimp only; split
  · rfl
  · exact State.stations_endScanUnclaimed ..

@[simp] theorem State.stations_arbitrate (fuel) : (State.arbitrate fuel s).stations = s.stations := by
  induction fuel generalizing s with
  | zero => rfl
  | succ fuel ih =>
    unfold State.arbitrate
    split
    · split
      · rfl
      next w _ =>
        split
        · rfl
        · rw [ih]
          cases w
          · exact State.stations_startScan _
          · exact State.stations_startJob _
    · rfl

@[simp] theorem State.stations_decide : s.decide.stations = s.stations := s.stations_arbitrate _

@[simp] theorem State.stations_settle (t) : (State.settle s t).stations = t.stations := by
  unfold State.settle; split <;> simp

/-- A report that reaches the exchange in progress makes the reports of what it does, and the arbiter none. -/
theorem State.stations_onReport {s : State} {e : Exchange} (he : s.exchange = some e) {w : Bool} (hw : w = true)
    (f : Exchange → State) : (s.onReport w f).stations = (f e).stations := by
  rw [State.onReport_eq he hw, State.stations_settle]

/-! ### The end of an exchange -/

@[simp] theorem State.stations_endVisit (o) : (s.endVisit o).stations = s.stations := by
  unfold State.endVisit; split
  · rfl
  · dsimp only; split
    · exact State.stations_endScanClaimed ..
    · split
      · rfl
      · exact State.stations_endScanUnclaimed ..

@[simp] theorem State.stations_busyOutcome (j x) : (s.busyOutcome j x).stations = s.stations := by
  unfold State.busyOutcome; dsimp only; split
  · simp
  · split <;> simp

@[simp] theorem State.stations_dataComplete (j x) : (s.dataComplete j x).stations = s.stations := by
  unfold State.dataComplete; split <;> simp

/-- Only a failure of a census visit makes a report at its end (R52). -/
theorem State.stations_recordVisit {o : ExchangeOutcome} (ho : o.failure = false) (e) :
    (s.recordVisit e o).stations = s.stations := by
  unfold State.recordVisit; rw [ho, if_neg Bool.false_ne_true]; split <;> rfl

theorem State.stations_endCensusVisit {o : ExchangeOutcome} (ho : o.failure = false) (e x) :
    (s.endCensusVisit e o x).stations = s.stations := by
  unfold State.endCensusVisit; dsimp only; split <;> simp [s.stations_recordVisit ho]

theorem State.stations_jobOutcome {o : ExchangeOutcome} (ho : o.failure = false) (e) :
    (s.jobOutcome e o).stations = s.stations := by
  unfold State.jobOutcome; split
  · rfl
  next j x _ =>
    dsimp only
    split
    · exact State.stations_endCensusVisit _ ho e _
    · split
      · simp
      · simp
      · split <;> simp
      · simp

/-- An exchange that ends with no failure makes no report at its end. -/
theorem State.stations_endExchange {o : ExchangeOutcome} (ho : o.failure = false) (e) :
    (s.endExchange e o).stations = s.stations := by
  unfold State.endExchange; dsimp only; split
  · simp
  · rw [State.stations_jobOutcome _ ho]; rfl
  · rfl

end Stations

/-! ### The reports of R39, R46 and R48 -/

section Reports
variable {s : State} {e : Exchange}

/-- A header that fails makes no report: it is in no data phase and in no test run (R38, R39). -/
theorem State.stations_failExchange_header (hp : e.phase = .header) (o : ExchangeOutcome) :
    (s.failExchange e o).stations = s.stations := by
  rw [(State.failExchange_reports e o).1]
  simp [State.failureReports, Exchange.inDataPhase, Exchange.inTestRun, hp]

/-- The last frame of a Clocked data phase, of an exchange with the frame counted, is reported good (R38, R48). -/
theorem State.stations_goodPhase (hc : e.isClocked = true) :
    (s.goodPhase e).stations = s.stations.set e.station { s.station e.station with streak := false } := by
  rw [State.goodPhase_eq]
  exact if_pos hc

/-- The ACK of the last data frame of a Clocked PUT (R35, R48). -/
theorem State.stations_putByteSent_last (hc : e.isClocked = true) (hn : e.framesDone + 1 = e.length.toNat) (m : Bool) :
    (s.putByteSent e m).stations = s.stations.set e.station { s.station e.station with streak := false } := by
  have kept : ((s.mapJobLink Link.putRemove).mapActive fun x => { x with msgEnd := x.msgEnd || m }).stations =
      s.stations := by simp
  unfold State.putByteSent
  dsimp only
  rw [if_pos (by simpa using hn), State.stations_endExchange _ (by rfl), State.stations_goodPhase (by exact hc),
    State.station, kept]
  rfl

/-- The ACK of the last data frame of a Clocked TAKE: one with the mark, or the last of the length (R32, R48). -/
theorem State.stations_takeData_last (hc : e.isClocked = true) {m : Bool}
    (hn : m = true ∨ e.framesDone + 1 = e.length.toNat) (v : Byte) :
    (s.takeData e v m).stations = s.stations.set e.station { s.station e.station with streak := false } := by
  unfold State.takeData
  dsimp only
  rw [if_pos (by simpa using hn), State.stations_enterHandback, State.stations_goodPhase (by exact hc),
    State.station, State.stations_mapJobLink]
  rfl

end Reports

end Sys2Proof.Machine

section
open Sys2Proof Sys2Proof.Machine

/-- Settles O45: the timeout's one report is that of R46, and the failure of a header makes none. -/
theorem answerTimeoutReport : Obligations.AnswerTimeoutReport := by
  intro s e he
  refine ⟨fun ha ht _ => ⟨_, rfl, ?timeout⟩, fun hp => ⟨fun _ ht => ⟨_, rfl, ?turn⟩, fun _ ht => ⟨_, rfl, ?frame⟩,
    fun ha hn => ⟨_, rfl, ?nak⟩⟩⟩
  case timeout =>
    rw [State.stations_onReport he (by simp [ha, ht]), State.stations_endExchange _ (by rfl)]
    rfl
  case turn => rw [State.stations_onReport he ht, State.stations_failExchange_header hp]
  case frame => rw [State.stations_onReport he ht, State.stations_failExchange_header hp]
  case nak =>
    rw [State.stations_onReport he (by simp [ha]), State.takeNak_exceeding e hn, State.stations_failExchange_header hp]

/-- Settles O46: the last data frame's one report is that of R48. -/
theorem clockedPhaseGoodReport : Obligations.ClockedPhaseGoodReport := by
  intro s e v m he hc
  refine ⟨fun hk ha hn => ⟨_, rfl, ?put⟩, fun hk ha hn => ⟨_, rfl, ?take⟩⟩
  case put =>
    have report : s.ackRead.stations = _ := State.stations_onReport he (by simp [ha]) _
    rw [report, State.stations_nextMove, State.takeAck_put ha hk, State.stations_putByteSent_last hc hn]
  case take =>
    rw [State.stations_onReport he (by simp [ha]), State.takeFrame_take hk, State.stations_nextMove,
      State.stations_takeData_last hc hn]

end

/-! # Visits of a census and of a scan: how they begin and how they end (R98, R108, R109, R124 to R128) -/

namespace Sys2Proof.Machine

section Visits
variable {s : State} {e : Exchange} {o : ExchangeOutcome} {a : Answer}

/-! ### The end of an exchange, whoever it serves (section 2.6, R39, R90) -/

/-- A report that finds the sequencer busy is followed by the arbiter's decision (R90). -/
theorem State.onReport_decides (he : s.exchange = some e) {w : Bool} (hw : w = true) (hq : s.seq.state ≠ .idle)
    (f : Exchange → State) : s.onReport w f = (f e).decide := by
  rw [State.onReport_eq he hw, State.settle_of_not_idle _ _ hq]

/-- The completion of a CUT that finds the sequencer busy is followed by the arbiter's decision (R16, R90). -/
theorem State.cutCompletion_decides (he : s.exchange = some e) (ha : s.bus.activity = .cutting)
    (hq : s.seq.state ≠ .idle) : exec .cutCompletion s = .next (s.endCut e).decide := by
  refine congrArg Host.Outcome.next ?_
  rw [State.cutCompletion, if_pos ha, he]
  exact State.settle_of_not_idle _ _ hq

/-- The completion of a CUT of a census visit that failed (R39, R108). -/
theorem State.endCut_of_running (hw : s.bus.waiting = none) (hq : s.seq.state = .running) (ho : e.outcome = some o) :
    s.endCut e = s.released.jobOutcome e o := by
  simp only [State.endCut, State.released_eq hw, ho, Option.getD_some]
  rw [show s.released.seq.state = .running from hq]

theorem State.endExchange_of_scanning (hw : s.bus.waiting = none) (hq : s.seq.state = .scanning) :
    s.endExchange e o = s.released.endVisit o := by
  simp only [State.endExchange, State.released_eq hw]
  rw [show s.released.seq.state = .scanning from hq]

theorem State.endCut_of_scanning (hw : s.bus.waiting = none) (hq : s.seq.state = .scanning) (ho : e.outcome = some o) :
    s.endCut e = s.released.endVisit o := by
  simp only [State.endCut, State.released_eq hw, ho, Option.getD_some]
  rw [show s.released.seq.state = .scanning from hq]

/-- The answers of a visit's handback, ACCEPT and BUSY, end it COMPLETE and BUSY (R26, R28, R31). -/
theorem State.takeHandback_visit (hk : e.kind = .status) (ha : e.answer = some a) (hc : a.code = 0 ∨ a.code = 1) :
    ∃ o, (o = .complete ∨ o = .busy) ∧ s.takeHandback e = s.endExchange e o := by
  rcases hc with hc | hc
  · exact ⟨.complete, .inl rfl, State.takeHandback_complete ha hc (by simp [hk])⟩
  · exact ⟨.busy, .inr rfl, State.takeHandback_refused ha (by simp [hc]) (by simp [Answer.outcome, hc])⟩

theorem ExchangeOutcome.failure_of_mem
    (h : o ∈ [ExchangeOutcome.frameError, .frameTimeout, .turnError, .protocolError]) : o.failure = true := by
  simp only [List.mem_cons, List.not_mem_nil, or_false] at h
  rcases h with rfl | rfl | rfl | rfl <;> rfl

/-! ### Census visits (R108, R109) -/

section Census
variable {j : Job} {x y : JobContext}

/-- A visit that ends COMPLETE or BUSY records its station present (R108). -/
theorem State.recordVisit_present (ha : s.active = some x) (ho : o = .complete ∨ o = .busy) : s.recordVisit e o =
    { s with active := some { x with census := x.census ||| (1 <<< e.station.val) } } := by
  rcases ho with rfl | rfl <;>
    simp [State.recordVisit, ExchangeOutcome.failure, State.mapActive, State.setActive, ha]

/-- A visit that fails records its station present, with the census error report (R52, R108). -/
theorem State.recordVisit_failed (ha : s.active = some x) (ho : o.failure = true) : s.recordVisit e o =
    { s with
      stations := s.stations.set e.station { s.station e.station with presence := .present }
      active := some { x with census := x.census ||| (1 <<< e.station.val) } } := by
  simp [State.recordVisit, ho, State.mapActive, State.setActive, State.reportStation, State.setStation,
    State.setStations, Station.censusError, ha]

/-- NO-STATION and a cut by request record the station not present (R108, R109). -/
theorem State.recordVisit_absent (ho : o = .noStation ∨ o = .cutByRequest) : s.recordVisit e o = s := by
  rcases ho with rfl | rfl <;> rfl

theorem State.jobOutcome_census (h : s.activeJob = some (j, x)) (hk : j.kind = .census) : s.jobOutcome e o =
    (s.setActive (some (x.withExchange e))).endCensusVisit e o (x.withExchange e) := by
  simp [State.jobOutcome, h, hk, JobContext.absorb_eq_withExchange]

/-- A census visit before the last: the next visit is the next step (R108). -/
theorem State.jobOutcome_census_goes_on {t : State} (h : s.activeJob = some (j, x)) (hk : j.kind = .census)
    (ht : (s.setActive (some (x.withExchange e))).recordVisit e o = t) (hy : t.active = some y) (hv : x.visit ≠ 13) :
    s.jobOutcome e o = { t with active := some { y with visit := x.visit + 1 } } := by
  have hv' : (x.withExchange e).visit.val ≠ 13 := fun g => hv (Fin.ext g)
  rw [State.jobOutcome_census h hk, State.endCensusVisit, ht]
  simp only [hv', if_false, State.mapActive, hy]
  rfl

/-- The last census visit ends the job (R108, R109). -/
theorem State.jobOutcome_census_ends {t : State} (h : s.activeJob = some (j, x)) (hk : j.kind = .census)
    (ht : (s.setActive (some (x.withExchange e))).recordVisit e o = t) (hy : t.activeJob = some (j, y))
    (hv : x.visit = 13) : s.jobOutcome e o = t.afterJobEnd (j.endRecord y .done 0) := by
  have hv' : (x.withExchange e).visit.val = 13 := congrArg Fin.val hv
  rw [State.jobOutcome_census h hk, State.endCensusVisit, ht]
  simp only [hv', if_true]
  exact State.endJob_keep hy _

/-- The completion of the CUT of a census visit that an ABORT met (R109, R111). -/
theorem State.endCut_of_aborted_census (hw : s.bus.waiting = none) (hq : s.seq.state = .cutting)
    (h : s.activeJob = some (j, x)) (hk : j.kind = .census) (ho : e.outcome = some o) :
    s.endCut e = (s.released.recordVisit e o).endJob .aborted .keep := by
  have hact : s.released.activeJob = some (j, x) := h
  simp only [State.endCut, State.released_eq hw, ho, Option.getD_some]
  rw [show s.released.seq.state = .cutting from hq]
  simp [hact, hk]

end Census

end Visits

end Sys2Proof.Machine

section
open Sys2Proof Sys2Proof.Machine

/-- Settles O27: the next step begins the visit's STATUS exchange, and the end of a census visit is recorded by its
outcome. -/
theorem nextVisitBegins : Obligations.NextVisitBegins := by
  refine ⟨?census, ?scan, ?ends, ?aborted⟩
  case census =>
    intro s j x rest hq he hbus hj hx hk
    have hact := State.activeJob_eq hj hx
    have begins : s.startExchange true = { s with
        exchange := some (Exchange.fresh .status x.visit 0 .output false 0), bus := s.bus.inClearing s.settings } := by
      rw [State.startExchange_of_next hact (.inr (.inr (.inr (.inr (.inr (.inr ⟨hk, rfl⟩)))))),
        State.beginExchange_of_free hbus]
    have between : s.betweenExchanges = true := by simp [State.betweenExchanges, hact, hk, JobKind.severalExchanges]
    refine congrArg Host.Outcome.next ?_
    simp only [State.nextStep, hq, he, between, if_true, begins]
    exact State.settle_of_idle_iff id
  case scan =>
    intro s x i hq he hbus hx hi
    have begins : s.nextVisit = s.beginVisit x i := by simp [State.nextVisit, hx, hi]
    refine congrArg Host.Outcome.next ?_
    simp only [State.nextStep, hq, he, begins]
    rw [State.beginVisit, State.beginExchange_of_free (by exact hbus)]
    exact State.settle_of_idle_iff id
  case ends =>
    intro s c e a o j x y rest tbl he hk hq hw hj hlen hx hjk hf hm htest hcase
    have hjob : s.activeJob = some (j, x) := State.activeJob_eq hj hx
    obtain ⟨u, o, hexec, hu, hrec⟩ : ∃ u o, exec c s = .next (State.decide (State.jobOutcome u e o)) ∧
        u.activeJob = some (j, x) ∧ (u.setActive (some (x.withExchange e))).recordVisit e o =
          { s.released with stations := tbl, active := some y } := by
      rcases hcase with ⟨rfl, hact, ha, hc, rfl, rfl⟩ | ⟨rfl, hact, ht, rfl, rfl⟩ | ⟨rfl, hact, ho, hmem, rfl, rfl⟩
      · obtain ⟨o, ho, hand⟩ := State.takeHandback_visit (s := s) hk ha hc
        exact ⟨_, o, State.handback_ends he hact hw hq hand, hjob, State.recordVisit_present rfl ho⟩
      · refine ⟨_, _, (State.answerTimeout_eq he hact ht hq).trans (congrArg _ (congrArg State.decide
          (State.endExchange_of_running (s := s.reportStation _ _) hw hq _))), hjob, ?_⟩
        exact State.recordVisit_absent (.inl rfl)
      · refine ⟨_, _, (State.cutCompletion_decides he hact (by simp [hq])).trans (congrArg _ (congrArg State.decide
          (State.endCut_of_running hw hq ho))), hjob, ?_⟩
        exact State.recordVisit_failed rfl (ExchangeOutcome.failure_of_mem hmem)
    constructor
    · intro hv
      rw [hexec, State.jobOutcome_census_goes_on hu hjk hrec rfl hv]
      exact congrArg Host.Outcome.next (State.decide_of_not_idle _ (by simp [State.released, hq]))
    · intro hv
      rw [hexec, State.jobOutcome_census_ends hu hjk hrec (State.activeJob_eq (by exact hj) rfl) hv]
      rfl
  case aborted =>
    intro s e o j x rest he hact hq hw hj hlen hx hjk ho
    have hjob : s.activeJob = some (j, x) := State.activeJob_eq hj hx
    have ends := (State.cutCompletion_decides he hact (by simp [hq])).trans (congrArg Host.Outcome.next
      (congrArg State.decide (State.endCut_of_aborted_census hw hq hjob hjk ho)))
    constructor
    · intro hcut
      rw [ends, State.recordVisit_absent (.inr hcut), State.endJob_keep (by exact hjob)]
      rfl
    · intro hmem
      rw [ends, State.recordVisit_failed (by exact hx) (ExchangeOutcome.failure_of_mem hmem),
        State.endJob_keep (State.activeJob_eq (by exact hj) rfl)]
      rfl

end

namespace Sys2Proof.Machine

/-! ### The visits left to a scan (R124) -/

section Scans
variable {s : State} {o : ExchangeOutcome} {x : Scan}

/-- The rotation order visits every station (R124). -/
theorem mem_rotationOrder (start i : StationIndex) : i ∈ rotationOrder start :=
  List.mem_map.mpr ⟨(i - start).val, List.mem_range.mpr (i - start).isLt, by simp⟩

/-- No station is left to visit: every unvisited one is Absent and not asking (R124). -/
theorem State.chooseVisit_eq_none_iff (visited : List StationIndex) : s.chooseVisit visited = none ↔
    ∀ i : StationIndex, i ∉ visited → (s.station i).askPending = false ∧ (s.station i).presence = .absent := by
  unfold State.chooseVisit
  dsimp only
  constructor
  · intro h i hi
    have left : i ∈ (rotationOrder s.attention.rotation).filter fun k => !visited.contains k :=
      List.mem_filter.mpr ⟨mem_rotationOrder .., by simpa using hi⟩
    split at h
    · cases h
    next hask => exact ⟨by simpa using List.find?_eq_none.mp hask i left, by simpa using List.find?_eq_none.mp h i left⟩
  · intro h
    have asking : ((rotationOrder s.attention.rotation).filter fun k => !visited.contains k).find?
        (fun i => (s.station i).askPending) = none :=
      List.find?_eq_none.mpr fun i hi => by simpa using (h i (by simpa using (List.mem_filter.mp hi).2)).1
    rw [asking]
    exact List.find?_eq_none.mpr fun i hi => by simpa using (h i (by simpa using (List.mem_filter.mp hi).2)).2

/-! ### The end of a scan visit (R125 to R128) -/

/-- A scan ends with its claimant, and R119 is applied (R127). -/
theorem State.endVisit_claimed {i : StationIndex} {v : Byte} (hx : s.attention.scan = some x)
    (hc : x.claim = some (i, v)) : s.endVisit o = { s with
      attention := { s.attention with
        rotation := i + 1, scan := none
        latch := s.attention.latch || (s.pins.askLine && s.settings.scan && !s.attention.mask) }
      seq := { s.seq with state := .idle, jobTurn := true }
      events := { s.events with
        held := s.events.held ++ [claimedEvent x i v (claimResult o)], reserved := s.events.reserved.erase .scan } } := by
  unfold State.endVisit
  simp only [hx, hc, State.endScanClaimed, State.leaveScan, State.judgeLatch, State.setAttention, State.post,
    State.setEvents, State.setSeq]
  split
  next h => simp_all [claimedEvent]
  next h =>
    have quiet : (s.pins.askLine && s.settings.scan && !s.attention.mask) = false := by simpa using h
    simp [quiet, claimedEvent]

/-- With a station left to visit the scan goes on at the next step (R125). -/
theorem State.endVisit_goes_on (hx : s.attention.scan = some x) (hc : x.claim = none)
    (hleft : s.chooseVisit x.visited ≠ none) :
    s.endVisit o = { s with attention := { s.attention with scan := some { x with current := none } } } := by
  unfold State.endVisit
  rw [hx]
  dsimp only
  split
  next h => cases hc.symm.trans h
  next =>
    split
    next => rfl
    next h => exact absurd h hleft

/-- With none left it ends without a claimant: an asserted line is masked, so that R119 sets no latch (R121, R128). -/
theorem State.endVisit_unclaimed (hx : s.attention.scan = some x) (hc : x.claim = none)
    (hleft : s.chooseVisit x.visited = none) : s.endVisit o = { s with
      attention := { s.attention with mask := s.attention.mask || s.pins.askLine, scan := none }
      seq := { s.seq with state := .idle, jobTurn := true }
      events := { s.events with
        held := s.events.held ++ [unclaimedEvent x s.attention.rotation]
        reserved := s.events.reserved.erase .scan } } := by
  unfold State.endVisit
  rw [hx]
  dsimp only
  split
  next h => cases hc.symm.trans h
  next =>
    split
    next h => cases hleft.symm.trans h
    next =>
      unfold State.endScanUnclaimed State.leaveScan State.judgeLatch
      rw [if_neg (by cases h : s.pins.askLine <;> simp [State.setAttention, State.post, State.setSeq, State.setEvents, h])]
      rfl

end Scans

end Sys2Proof.Machine

section
open Sys2Proof Sys2Proof.Machine

/-- Settles O29: the outcome of a visit's exchange ends the visit, and the scan with it at a claim or when no station is
left. -/
theorem claimingVisitEndsScan : Obligations.ClaimingVisitEndsScan := by
  refine ⟨?handback, ?cut, ?unclaimed⟩
  case handback =>
    intro s x e a i v hq hact hw he hk ha hc hx hclaim
    refine congrArg Host.Outcome.next ((State.onReport_decides he (by simp [hact]) (by simp [hq]) _).trans ?_)
    rw [State.takeHandback_complete ha hc (by simp [hk]), State.endExchange_of_scanning hw hq,
      State.endVisit_claimed (s := s.released) hx hclaim]
    rfl
  case cut =>
    intro s x e i v hq hact hw he ho hx hclaim
    rw [State.cutCompletion_decides he hact (by simp [hq]), State.endCut_of_scanning hw hq ho,
      State.endVisit_claimed (s := s.released) hx hclaim]
    rfl
  case unclaimed =>
    intro s base c x e a o tbl hq hw he hk hx hclaim hcase hbase
    subst hbase
    have busy : s.seq.state ≠ .idle := by simp [hq]
    let u : State := { s.released with stations := tbl }
    obtain ⟨o, hexec⟩ : ∃ o, exec c s = .next (State.decide (u.endVisit o)) := by
      rcases hcase with ⟨rfl, hact, ha, hc, rfl⟩ | ⟨rfl, hact, ht, rfl⟩ | ⟨rfl, hact, ho, -, rfl⟩
      · obtain ⟨o, -, hand⟩ := State.takeHandback_visit (s := s) hk ha hc
        refine ⟨o, congrArg Host.Outcome.next ((State.onReport_decides he (by simp [hact]) busy _).trans ?_)⟩
        rw [hand, State.endExchange_of_scanning hw hq]
        rfl
      · refine ⟨.noStation, congrArg Host.Outcome.next
          ((State.onReport_decides he (by simp [hact, ht]) busy _).trans ?_)⟩
        rw [State.endExchange_of_scanning (by exact hw) (by exact hq)]
        rfl
      · refine ⟨o, (State.cutCompletion_decides he hact busy).trans ?_⟩
        rw [State.endCut_of_scanning hw hq ho]
        rfl
    constructor
    · rintro ⟨i, hi, hasks⟩
      have left : u.chooseVisit x.visited ≠ none := fun h => by
        obtain ⟨hask, habsent⟩ := (State.chooseVisit_eq_none_iff _).mp h i hi
        exact hasks.elim (fun g => Bool.false_ne_true (hask.symm.trans g)) (fun g => g habsent)
      rw [hexec, State.endVisit_goes_on (s := u) hx hclaim left]
      exact congrArg Host.Outcome.next (State.decide_of_not_idle _ (by exact busy))
    · intro hnone
      rw [hexec, State.endVisit_unclaimed (s := u) hx hclaim ((State.chooseVisit_eq_none_iff _).mpr hnone)]
      rfl

end

/-! # The pulse completion of a BUSRESET (R54, R68, R110, R120, R121, R142, R166, R167) -/

namespace Sys2Proof.Machine

/-! ### Postings of the sequencer and of the mover at one event (R135, R142) -/

section Postings
variable {s : State} {j : Job} {x : JobContext} {c : Chan}

theorem insertIdx_append_add {α : Type} (l m : List α) (p : Nat) (e : α) :
    (l ++ m).insertIdx (l.length + p) e = l ++ m.insertIdx p e := by
  induction l with
  | nil => simp
  | cons a l ih => simp [Nat.add_right_comm, ih]

/-- A posting among records of the mover's joins before, between or behind them (R135, R142, log 8). -/
theorem State.postAmong_perm (h : Holder) (e : Event) {l m : List Event} (hl : s.events.held = l ++ m) (hm : m ≠ []) :
    ∃ held, held.Perm (e :: m) ∧ s.postAmong m.length h e = { s with
      freeTick := s.freeTick + 1
      events := { s.events with held := l ++ held, reserved := s.events.reserved.erase h } } := by
  have hlt : Config.postingOrder s.freeTick % (m.length + 1) < m.length + 1 := Nat.mod_lt _ (Nat.succ_pos _)
  refine ⟨m.insertIdx (m.length - Config.postingOrder s.freeTick % (m.length + 1)) e, List.perm_insertIdx _ _ (by omega), ?_⟩
  have place : s.events.held.length - Config.postingOrder s.freeTick % (m.length + 1) =
      l.length + (m.length - Config.postingOrder s.freeTick % (m.length + 1)) := by rw [hl, List.length_append]; omega
  unfold State.postAmong
  rw [if_neg (by simpa using hm)]
  simp only [place]
  rw [hl, insertIdx_append_add]
  rfl

/-- The end of a job that leaves its link alone: its event joins those posted since, and the job leaves the queue (R115). -/
theorem State.endJobSince_of_postAmong (h : s.activeJob = some (j, x)) {n k : Nat} (hk : s.events.held.length - n = k)
    {r : JobResult} {t : State} (ht : s.postAmong k .job (j.endRecord x r 0) = t) :
    s.endJobSince n r .keep = t.leaveQueue := by
  simp only [State.endJobSince, h, State.cleanUp, Job.event_eq_endRecord, hk, ht]

/-- The end of a job at an event at which the mover has posted records (R115, R135, R142). -/
theorem State.endJobSince_posted (h : s.activeJob = some (j, x)) {l m : List Event} (hl : s.events.held = l ++ m)
    (hm : m ≠ []) (r : JobResult) :
    ∃ held, held.Perm (j.endRecord x r 0 :: m) ∧ s.endJobSince l.length r .keep =
      { s.afterJobEnd (j.endRecord x r 0) with
        freeTick := s.freeTick + 1
        events := { (s.afterJobEnd (j.endRecord x r 0)).events with held := l ++ held } } := by
  obtain ⟨held, perm, post⟩ := State.postAmong_perm .job (j.endRecord x r 0) hl hm
  have count : s.events.held.length - l.length = m.length := by rw [hl, List.length_append]; omega
  obtain ⟨rest, hj⟩ := State.jobs_of_activeJob h
  rw [State.endJobSince_of_postAmong h count post]
  exact ⟨held, perm, State.leaveQueue_eq (by simp [hj])⟩

/-- The end of a job at an event that stops one Running channel (R115, R142, R166). -/
theorem State.endJobSince_stopping (h : s.activeJob = some (j, x)) (hr : (s.chan c).running = true) (w : StopReason)
    (r : JobResult) :
    s.EndsStopping ((s.stopChannel c w).endJobSince s.events.held.length r .keep) c w (j.endRecord x r 0) := by
  cases hm : s.moving c
  case true =>
    rw [State.stopChannel_of_moving hr hm]
    exact .inl ⟨hm, State.endJob_keep (by exact h) r⟩
  case false =>
    rw [State.stopChannel_of_still hr hm]
    have posted : (s.afterRunEnd c w).events.held = s.events.held ++ [(s.chan c).stopRecord c w] := rfl
    obtain ⟨held, mem, post⟩ := State.postAmong_one _ .job (j.endRecord x r 0) _ _ posted
    obtain ⟨rest, hj⟩ := State.jobs_of_activeJob h
    rw [State.endJobSince_of_postAmong (s := s.afterRunEnd c w) h (by simp [posted]) post]
    exact .inr ⟨hm, held, mem, State.leaveQueue_eq (by simp [State.afterRunEnd, hj])⟩

end Postings

/-! ### What the ends of runs leave (R167) -/

section Runs
variable {s : State} {c : Chan} {r : StopReason}

theorem Chan.other_other (c : Chan) : c.other.other = c := by cases c <;> rfl

/-- A byte move is one channel's (R160). -/
theorem State.still_of_other_moving (h : s.moving c = true) : s.moving c.other = false := by
  unfold State.moving at h ⊢
  split <;> simp_all
  cases c <;> simp [Chan.other]

theorem Link.release_eq (l : Link) (c : Chan) :
    l.release c = { l with holder := if l.holder = some c then none else l.holder } := by
  unfold Link.release; split <;> rfl

theorem Link.release_comm (l : Link) (c d : Chan) : (l.release c).release d = (l.release d).release c := by
  simp only [Link.release_eq]
  by_cases hc : l.holder = some c <;> by_cases hd : l.holder = some d <;> simp [hc, hd]

/-- The end of a run releases the link the channel is programmed with (R80, R167). -/
theorem State.afterRunEnd_link (s : State) (c : Chan) (r : StopReason) (i : LinkIndex) :
    (s.afterRunEnd c r).link i = if i = (s.chan c).link then (s.link i).release c else s.link i := by
  split
  next h =>
    subst h
    exact (Vector.getElem_set_self _).trans (Link.release_eq ..).symm
  next h =>
    have h' : (s.chan c).link.val ≠ i.val := fun g => h (Fin.ext g.symm)
    simp [State.afterRunEnd, State.link, Vector.getElem_set_ne, h']

theorem State.afterRunEnd_chan_other (s : State) (c : Chan) (r : StopReason) :
    (s.afterRunEnd c.other r).chan c = s.chan c := by cases c <;> rfl

/-- The ends of two runs leave the same state in either order, but for the order of their events (R142). -/
theorem State.afterRunEnd_comm (s : State) (c : Chan) (r : StopReason) :
    (s.afterRunEnd c.other r).afterRunEnd c r = { (s.afterRunEnd c r).afterRunEnd c.other r with
      events := { ((s.afterRunEnd c r).afterRunEnd c.other r).events with
        held := s.events.held ++ [(s.chan c.other).stopRecord c.other r, (s.chan c).stopRecord c r] } } := by
  have links : ((s.afterRunEnd c.other r).afterRunEnd c r).links = ((s.afterRunEnd c r).afterRunEnd c.other r).links := by
    refine Vector.ext fun n hn => ?_
    have other : (s.afterRunEnd c r).chan c.other = s.chan c.other := by
      simpa only [Chan.other_other] using s.afterRunEnd_chan_other c.other r
    change ((s.afterRunEnd c.other r).afterRunEnd c r).link ⟨n, hn⟩ = ((s.afterRunEnd c r).afterRunEnd c.other r).link ⟨n, hn⟩
    simp only [State.afterRunEnd_link, State.afterRunEnd_chan_other, other]
    split <;> split <;> simp [Link.release_comm]
  have reserved : ((s.afterRunEnd c.other r).afterRunEnd c r).events.reserved =
      ((s.afterRunEnd c r).afterRunEnd c.other r).events.reserved := List.erase_comm ..
  have held : ((s.afterRunEnd c.other r).afterRunEnd c r).events.held =
      s.events.held ++ [(s.chan c.other).stopRecord c.other r, (s.chan c).stopRecord c r] := by
    cases c <;> exact List.append_assoc ..
  have mover : ((s.afterRunEnd c.other r).afterRunEnd c r).mover = ((s.afterRunEnd c r).afterRunEnd c.other r).mover := by
    cases c <;> rfl
  change _ = { s with
    links := ((s.afterRunEnd c r).afterRunEnd c.other r).links
    mover := ((s.afterRunEnd c r).afterRunEnd c.other r).mover
    events := { s.events with
      held := s.events.held ++ [(s.chan c.other).stopRecord c.other r, (s.chan c).stopRecord c r]
      reserved := ((s.afterRunEnd c r).afterRunEnd c.other r).events.reserved } }
  rw [← links, ← reserved, ← mover, ← held]
  rfl

/-- The stops of two Running channels with no byte move in progress: both runs end, in one order or the other. -/
theorem State.stopChannel_both_still (hr : (s.chan c).running = true) (ho : (s.chan c.other).running = true)
    (hm : s.moving c = false) (hmo : s.moving c.other = false) :
    (s.stopChannel c r).stopChannel c.other r = (s.afterRunEnd c r).afterRunEnd c.other r := by
  rw [State.stopChannel_of_still hr hm]
  refine State.stopChannel_of_still ?_ ?_ r <;> cases c <;> assumption

/-- A stop that waits and one that ends a run at once commute (R166). -/
theorem State.stopChannel_comm_of_moving (hr : (s.chan c).running = true) (ho : (s.chan c.other).running = true)
    (hm : s.moving c = true) :
    (s.stopChannel c.other r).stopChannel c r = (s.stopChannel c r).stopChannel c.other r := by
  have hmo := State.still_of_other_moving hm
  rw [State.stopChannel_of_still ho hmo, State.stopChannel_of_moving hr hm]
  cases c <;> rw [State.stopChannel_of_moving (by exact hr) (by exact hm),
    State.stopChannel_of_still (by exact ho) (by exact hmo)] <;> rfl

/-- The end of a job at an event that ends the runs of both channels: the three events join in any order (R115, R135, R142). -/
theorem State.endJobSince_stopping_both {j : Job} {x : JobContext} {t : State} (h : s.activeJob = some (j, x))
    (hr : (s.chan c).running = true) (ho : (s.chan c.other).running = true) (hm : s.moving c = false)
    (hmo : s.moving c.other = false) (ht : t = (s.stopChannel c r).stopChannel c.other r ∨
      t = (s.stopChannel c.other r).stopChannel c r) (w : JobResult) :
    ∃ held, held.Perm [(s.chan c).stopRecord c r, (s.chan c.other).stopRecord c.other r, j.endRecord x w 0] ∧
      t.endJobSince s.events.held.length w .keep =
        { ((s.afterRunEnd c r).afterRunEnd c.other r).afterJobEnd (j.endRecord x w 0) with
          freeTick := s.freeTick + 1
          events := { (((s.afterRunEnd c r).afterRunEnd c.other r).afterJobEnd (j.endRecord x w 0)).events with
            held := s.events.held ++ held } } := by
  have ended : ∃ m, m.Perm [(s.chan c).stopRecord c r, (s.chan c.other).stopRecord c.other r] ∧
      t = { (s.afterRunEnd c r).afterRunEnd c.other r with
        events := { ((s.afterRunEnd c r).afterRunEnd c.other r).events with held := s.events.held ++ m } } := by
    rcases ht with ht | ht
    · refine ⟨_, .refl _, ?_⟩
      rw [ht, State.stopChannel_both_still hr ho hm hmo]
      cases c <;> simp only [State.afterRunEnd, List.append_assoc] <;> rfl
    · refine ⟨_, .swap .., ?_⟩
      rw [ht, ← State.afterRunEnd_comm]
      simpa only [Chan.other_other] using State.stopChannel_both_still (c := c.other) ho (by rwa [Chan.other_other]) hmo
        (by rwa [Chan.other_other])
  obtain ⟨m, two, rfl⟩ := ended
  obtain ⟨held, perm, left⟩ := State.endJobSince_posted (s := { (s.afterRunEnd c r).afterRunEnd c.other r with
    events := { ((s.afterRunEnd c r).afterRunEnd c.other r).events with held := s.events.held ++ m } }) (by exact h) rfl
    (fun nil => by simpa [nil] using two.length_eq) w
  exact ⟨held, (perm.trans (two.cons _)).trans (List.perm_append_singleton _ [_, _]).symm, left⟩

end Runs

/-! ### The links a bus reset loses (R68) -/

section Lost
variable {s : State} {c : Chan}

theorem Link.busReset_eq (l : Link) : l.busReset = if l.state = .opened
    then { l with state := .lost, holder := if l.dir = .output then none else l.holder } else l := by
  unfold Link.busReset
  cases l.dir <;> rfl

theorem State.losesLink_iff : s.losesLink c = true ↔
    ∃ i : LinkIndex, (s.link i).state = .opened ∧ (s.link i).dir = .output ∧ (s.link i).holder = some c := by
  have all : ∀ i : LinkIndex, i ∈ allLinks := by decide
  simp [State.losesLink, all, and_assoc]

/-- The links after a bus reset, with no channel stopped yet (R68). -/
def State.lostLinks (s : State) : State := s.setLinks (mapTable Link.busReset s.links)

theorem State.loseLinks_of_none (h : ∀ c, s.losesLink c = false) : s.loseLinks = s.lostLinks := by
  simp only [State.loseLinks, h]
  rfl

theorem State.loseLinks_of_one (hc : s.losesLink c = true) (ho : s.losesLink c.other = false) :
    s.loseLinks = s.lostLinks.stopChannel c .lost := by
  cases c <;> simp only [Chan.other] at ho <;> simp only [State.loseLinks, hc, ho] <;> rfl

/-- Both channels lose their links: they are stopped in one order or the other, by a free value (R142, log 8). -/
theorem State.loseLinks_of_both (hc : s.losesLink c = true) (ho : s.losesLink c.other = true) :
    s.loseLinks = ((s.lostLinks.setFreeTick (s.freeTick + 1)).stopChannel c .lost).stopChannel c.other .lost ∨
      s.loseLinks = ((s.lostLinks.setFreeTick (s.freeTick + 1)).stopChannel c.other .lost).stopChannel c .lost := by
  cases c <;> simp only [Chan.other] at ho ⊢ <;> simp only [State.loseLinks, hc, ho] <;> split <;>
    simp [State.lostLinks]

end Lost

/-! ### The state after the pulse (R54, R68, R120, R121) -/

section Pulse
variable {s : State} {c : Chan}

/-- A stop of a channel leaves what R119 looks at. -/
theorem State.stopChannel_attention (s : State) (c : Chan) (r : StopReason) : (s.stopChannel c r).attention = s.attention ∧
    (s.stopChannel c r).pins = s.pins ∧ (s.stopChannel c r).settings = s.settings := by
  rcases s.stopChannel_cases c r with ⟨-, h⟩ | ⟨-, -, h⟩ | ⟨-, -, h⟩ <;> rw [h] <;> exact ⟨rfl, rfl, rfl⟩

theorem State.stopChannel_setAttention (s : State) (c : Chan) (r : StopReason) (a : Attention) :
    (s.stopChannel c r).setAttention a = (s.setAttention a).stopChannel c r := by
  unfold State.stopChannel
  dsimp only
  change _ = if (s.chan c).running then if s.moving c then _ else _ else _
  split
  · split <;> rfl
  · rfl

theorem State.judgeLatch_stopChannel (s : State) (c : Chan) (r : StopReason) :
    (s.stopChannel c r).judgeLatch = s.judgeLatch.stopChannel c r := by
  obtain ⟨attention, pins, settings⟩ := s.stopChannel_attention c r
  unfold State.judgeLatch
  rw [attention, pins, settings, State.stopChannel_setAttention]
  split <;> rfl

theorem State.clearAttention_stopChannel (s : State) (c : Chan) (r : StopReason) :
    (s.stopChannel c r).clearAttention = s.clearAttention.stopChannel c r := by
  rw [State.clearAttention, (s.stopChannel_attention c r).1, State.stopChannel_setAttention, State.judgeLatch_stopChannel]
  rfl

theorem State.judgeLatch_setFreeTick (s : State) (n : Nat) : (s.setFreeTick n).judgeLatch = s.judgeLatch.setFreeTick n := by
  unfold State.judgeLatch
  rw [show (s.setFreeTick n).attention = s.attention from rfl, show (s.setFreeTick n).pins = s.pins from rfl,
    show (s.setFreeTick n).settings = s.settings from rfl]
  split <;> rfl

theorem State.clearAttention_setFreeTick (s : State) (n : Nat) :
    (s.setFreeTick n).clearAttention = s.clearAttention.setFreeTick n := by
  rw [State.clearAttention, State.clearAttention, ← State.judgeLatch_setFreeTick]
  rfl

/-- R119 applied to a cleared unit changes the attention unit alone. -/
theorem State.clearAttention_eq (s : State) : s.clearAttention = { s with attention := s.clearAttention.attention } := by
  unfold State.clearAttention State.judgeLatch
  split <;> rfl

/-- The state after a pulse, with no channel stopped yet: the bus unit in Free, the entries reset, the links lost, the
attention unit cleared (R17, R54, R68, R120, R121). -/
def State.afterPulse (s : State) : State :=
  (s.busToFree.setStations (Vector.replicate Config.stationCount Station.reset)).lostLinks.clearAttention

/-- The same with no request and no scan in progress. -/
theorem State.afterPulse_eq (hw : s.bus.waiting = none) (hs : s.attention.scan = none) : s.afterPulse = { s with
    bus := s.bus.inFree
    stations := Vector.replicate Config.stationCount Station.reset
    links := mapTable Link.busReset s.links
    attention := { s.attention with latch := s.pins.askLine && s.settings.scan, mask := false } } := by
  rw [State.afterPulse, State.busToFree, BusUnit.toFree_of_nothing_waiting _ _ hw,
    State.clearAttention_of_no_scan (by exact hs)]
  rfl

theorem State.resetByPulse_of_none (h : ∀ c, s.losesLink c = false) : s.busToFree.resetByPulse = s.afterPulse := by
  rw [State.resetByPulse, State.loseLinks_of_none (by exact h)]
  rfl

theorem State.resetByPulse_of_one (hc : s.losesLink c = true) (ho : s.losesLink c.other = false) :
    s.busToFree.resetByPulse = s.afterPulse.stopChannel c .lost := by
  rw [State.resetByPulse, State.loseLinks_of_one (by exact hc) (by exact ho), State.clearAttention_stopChannel]
  rfl

theorem State.resetByPulse_of_both (hc : s.losesLink c = true) (ho : s.losesLink c.other = true) :
    s.busToFree.resetByPulse =
        ((s.afterPulse.setFreeTick (s.freeTick + 1)).stopChannel c .lost).stopChannel c.other .lost ∨
      s.busToFree.resetByPulse =
        ((s.afterPulse.setFreeTick (s.freeTick + 1)).stopChannel c.other .lost).stopChannel c .lost := by
  have cleared (d e : Chan) (u : State) (n : Nat) : (((u.setFreeTick n).stopChannel d .lost).stopChannel e .lost).clearAttention =
      ((u.clearAttention.setFreeTick n).stopChannel d .lost).stopChannel e .lost := by
    rw [State.clearAttention_stopChannel, State.clearAttention_stopChannel, State.clearAttention_setFreeTick]
  rcases State.loseLinks_of_both (s := s.busToFree.setStations _) hc ho with h | h
  · exact .inl ((congrArg State.clearAttention h).trans (cleared ..))
  · exact .inr ((congrArg State.clearAttention h).trans (cleared ..))

/-- The event of a pulse's end, the job ending with it and the arbiter deciding (R17, R90, R110). -/
theorem State.pulseCompletion_decides (ha : s.bus.activity = .pulsing) (hq : s.seq.state ≠ .idle) :
    exec .pulseCompletion s =
      .next (State.decide (s.busToFree.resetByPulse.endJobSince s.events.held.length .done .keep)) := by
  refine congrArg Host.Outcome.next ?_
  rw [State.pulseCompletion, if_pos ha, State.settle_of_not_idle _ _ hq]

/-- The completion event of a BUSRESET (R114). -/
theorem Job.endRecord_busReset {j : Job} (hk : j.kind = .busReset) (x : JobContext) :
    j.endRecord x .done 0 =
      { kind := .job .busReset, source := j.tag, result := .code .done, count := 0, detail := 0, flags := x.flagByte } := by
  rw [Job.endRecord_eq (by simp [hk]), Job.eventCount, Job.eventDetail, hk]
  rfl

end Pulse

/-! ### What leaves a run be -/

/-- From `s` to `t` the run of channel `c` goes on as it was: the channel and its move stay, its hold of an IN link stays, no
event is lost and no job is added. -/
structure State.SparesRun (c : Chan) (s t : State) : Prop where
  chan : t.chan c = s.chan c
  moving : t.moving c = s.moving c
  held : s.events.held ⊆ t.events.held
  input : ∀ i : LinkIndex, (s.link i).dir = .input → (s.link i).holder = some c →
    (t.link i).dir = .input ∧ (t.link i).holder = some c
  jobs : t.jobs ⊆ s.jobs

section Spared
variable {s t u : State} {c : Chan}

theorem State.SparesRun.trans (h : s.SparesRun c t) (g : t.SparesRun c u) : s.SparesRun c u where
  chan := g.chan.trans h.chan
  moving := g.moving.trans h.moving
  held := List.Subset.trans h.held g.held
  input i hd hh := by
    obtain ⟨hd', hh'⟩ := h.input i hd hh
    exact g.input i hd' hh'
  jobs := List.Subset.trans g.jobs h.jobs

/-- What leaves the mover and the links leaves a run be. -/
theorem State.SparesRun.of_tables (hm : t.mover = s.mover) (hl : t.links = s.links)
    (he : s.events.held ⊆ t.events.held) (hj : t.jobs ⊆ s.jobs) : s.SparesRun c t where
  chan := congrArg (·.chan c) hm
  moving := by rw [State.moving, hm]; rfl
  held := he
  input i hd hh := by rw [State.link, hl]; exact ⟨hd, hh⟩
  jobs := hj

theorem State.SparesRun.refl (s : State) : s.SparesRun c s := .of_tables rfl rfl (List.Subset.refl _) (List.Subset.refl _)

/-- The end of the other channel's run (R167). -/
theorem State.afterRunEnd_spares (s : State) (c : Chan) (r : StopReason) : s.SparesRun c (s.afterRunEnd c.other r) where
  chan := s.afterRunEnd_chan_other c r
  moving := by cases c <;> rfl
  held := List.subset_append_left ..
  input i hd hh := by
    have spared : (s.link i).release c.other = s.link i := by
      rw [Link.release, hh]; cases c <;> simp [Chan.other]
    rw [State.afterRunEnd_link, spared, ite_self]
    exact ⟨hd, hh⟩
  jobs := List.Subset.refl _

/-- A stop of the other channel (R166). -/
theorem State.stopChannel_spares (s : State) (c : Chan) (r : StopReason) : s.SparesRun c (s.stopChannel c.other r) := by
  rcases s.stopChannel_cases c.other r with ⟨-, h⟩ | ⟨-, -, h⟩ | ⟨-, -, h⟩ <;> rw [h]
  · exact .refl s
  · exact ⟨by cases c <;> rfl, by cases c <;> rfl, List.Subset.refl _, fun _ hd hh => ⟨hd, hh⟩, List.Subset.refl _⟩
  · exact s.afterRunEnd_spares c r

/-- A bus reset leaves an IN link its holder (R68). -/
theorem State.afterPulse_spares (s : State) (c : Chan) : s.SparesRun c s.afterPulse := by
  rw [State.afterPulse, State.clearAttention_eq]
  refine ⟨rfl, rfl, List.Subset.refl _, fun i hd hh => ?_, List.Subset.refl _⟩
  have link : (mapTable Link.busReset s.links)[i] = (s.link i).busReset := mapTable_getElem ..
  change (mapTable Link.busReset s.links)[i].dir = _ ∧ (mapTable Link.busReset s.links)[i].holder = _
  rw [link, Link.busReset_eq]
  split <;> simp [hd, hh]

theorem State.afterPulse_setFreeTick_spares (s : State) (c : Chan) (n : Nat) :
    s.SparesRun c (s.afterPulse.setFreeTick n) :=
  (s.afterPulse_spares c).trans (.of_tables rfl rfl (List.Subset.refl _) (List.Subset.refl _))

/-- A pulse stops a channel that loses its link, and leaves its run be before and after (R68). -/
theorem State.resetByPulse_stops (h : s.losesLink c = true) :
    ∃ u, s.SparesRun c u ∧ (u.stopChannel c .lost).SparesRun c s.busToFree.resetByPulse := by
  have tick := s.afterPulse_setFreeTick_spares c (s.freeTick + 1)
  cases ho : s.losesLink c.other
  case false => exact ⟨_, s.afterPulse_spares c, State.resetByPulse_of_one h ho ▸ .refl _⟩
  case true =>
    rcases State.resetByPulse_of_both h ho with heq | heq
    · exact ⟨_, tick, heq ▸ State.stopChannel_spares ..⟩
    · exact ⟨_, tick.trans (State.stopChannel_spares ..), by rw [heq]; exact .refl _⟩

/-- A pulse leaves the run of a channel that loses no link (R68). -/
theorem State.resetByPulse_spares (h : s.losesLink c = false) : s.SparesRun c s.busToFree.resetByPulse := by
  cases ho : s.losesLink c.other
  case false =>
    have none_lost (d : Chan) : s.losesLink d = false := by cases c <;> cases d <;> assumption
    exact State.resetByPulse_of_none none_lost ▸ s.afterPulse_spares c
  case true =>
    rw [State.resetByPulse_of_one ho (by rw [Chan.other_other]; exact h)]
    exact (s.afterPulse_spares c).trans (State.stopChannel_spares ..)

/-- The end of a job that leaves its link alone (R115). -/
theorem State.endJobSince_spares (s : State) (c : Chan) (n : Nat) (r : JobResult) :
    s.SparesRun c (s.endJobSince n r .keep) := by
  unfold State.endJobSince
  split
  · exact .of_tables rfl rfl (List.Subset.refl _) (List.Subset.refl _)
  next j x h =>
    obtain ⟨rest, hj⟩ := State.jobs_of_activeJob h
    have posted (e : Event) (k : Nat) : s.SparesRun c (s.postAmong k .job e) := by
      unfold State.postAmong
      split
      · exact .of_tables rfl rfl (List.subset_append_left ..) (List.Subset.refl _)
      · exact .of_tables rfl rfl (fun _ h => (List.mem_insertIdx (Nat.sub_le ..)).mpr (.inr h)) (List.Subset.refl _)
    have same_jobs (e : Event) (k : Nat) : (s.postAmong k .job e).jobs = s.jobs := by
      unfold State.postAmong; split <;> rfl
    have left {t : State} (h : s.SparesRun c t) (ht : t.jobs = s.jobs) : s.SparesRun c t.leaveQueue := by
      rw [State.leaveQueue_eq (by simp [ht, hj])]
      exact h.trans (.of_tables rfl rfl (List.Subset.refl _) (List.tail_subset _))
    exact left (posted _ _) (same_jobs _ _)

theorem State.endScanUnclaimed_spares (s : State) (c : Chan) (x : Scan) : s.SparesRun c (s.endScanUnclaimed x) := by
  unfold State.endScanUnclaimed State.leaveScan State.judgeLatch
  split <;> exact .of_tables rfl rfl (List.subset_append_left ..) (List.Subset.refl _)

theorem State.startScan_spares (s : State) (c : Chan) : s.SparesRun c s.startScan := by
  have start (a : Attention) :
      s.SparesRun c (((s.reserve .scan).setSeq { s.seq with state := .scanning }).setAttention a) :=
    .of_tables rfl rfl (List.Subset.refl _) (List.Subset.refl _)
  unfold State.startScan
  dsimp only
  split
  · exact .of_tables rfl rfl (List.Subset.refl _) (List.Subset.refl _)
  · exact (start _).trans (State.endScanUnclaimed_spares ..)

/-- The start of a BUSRESET (R110). -/
theorem State.startJob_spares (hj : ∀ j ∈ s.jobs, j.kind = .busReset) : s.SparesRun c s.startJob := by
  unfold State.startJob
  split
  · exact .refl s
  next j rest h =>
    rw [hj j (by simp [h])]
    exact .of_tables rfl rfl (List.Subset.refl _) (List.Subset.refl _)

/-- The arbiter leaves every run be while no job but BUSRESETs is queued (R90). -/
theorem State.arbitrate_spares (fuel : Nat) (hj : ∀ j ∈ s.jobs, j.kind = .busReset) :
    s.SparesRun c (State.arbitrate fuel s) := by
  induction fuel generalizing s with
  | zero => exact .refl s
  | succ fuel ih =>
    have same (q : Sequencer) : s.SparesRun c (s.setSeq q) :=
      .of_tables rfl rfl (List.Subset.refl _) (List.Subset.refl _)
    unfold State.arbitrate
    split
    · split
      · exact same _
      next w _ =>
        split
        · exact same _
        · have started : s.SparesRun c ((s.setSeq { s.seq with stall := false }).carryOut w) := by
            refine (same { s.seq with stall := false }).trans ?_
            cases w
            · exact State.startScan_spares ..
            · exact State.startJob_spares hj
          exact started.trans (ih fun j h => hj j (started.jobs h))
    · exact .refl s

/-- A decision of the arbiter (R90). -/
theorem State.decide_spares (hj : ∀ j ∈ s.jobs, j.kind = .busReset) : s.SparesRun c s.decide :=
  State.arbitrate_spares _ hj

end Spared

end Sys2Proof.Machine

section
open Sys2Proof Sys2Proof.Machine

/-- Settles O48: the pulse's completion is `State.afterPulse`, the stops of the channels that lose their link, and the end of
the job. -/
theorem pulseCompletionResult : Obligations.PulseCompletionResult := by
  refine ⟨?unbound, ?channel, ?bound⟩
  case unbound =>
    intro s j x rest ha hw hq hj hlen hx hk hscan hfree
    have none_lost (c : Chan) : s.losesLink c = false :=
      Bool.eq_false_iff.mpr fun h => by
        obtain ⟨i, hopen, hout, hh⟩ := State.losesLink_iff.mp h
        exact absurd ((hfree i hopen hout).symm.trans hh) (by simp)
    have links : mapTable (fun l => if l.state = .opened then { l with state := .lost } else l) s.links =
        mapTable Link.busReset s.links := Vector.ext fun n hn => by
      have free := hfree ⟨n, hn⟩
      rw [mapTable_getElem, mapTable_getElem, Link.busReset_eq]
      split
      next hopen => cases hd : s.links[n].dir <;> simp_all [State.link]
      next => rfl
    rw [State.pulseCompletion_decides ha (by simp [hq]), State.resetByPulse_of_none none_lost, State.afterPulse_eq hw hscan,
      links, ← Job.endRecord_busReset hk]
    exact congrArg (fun t => Host.Outcome.next (State.decide t)) (State.endJob_keep (by exact State.activeJob_eq hj hx) .done)
  case channel =>
    intro s c i j hlaw ha hq hj hk hh hopen
    obtain ⟨holds, -⟩ := hlaw c (by cases c <;> simp)
    obtain ⟨hrun, hlink, -⟩ := holds i hh
    have queue : s.busToFree.resetByPulse.jobs = [j] :=
      (congrArg BusView.jobs s.busToFree.busView_resetByPulse).trans hj
    have ended := s.busToFree.resetByPulse.endJobSince_spares c s.events.held.length .done
    have rest := ended.trans (State.decide_spares fun k h => by
      obtain rfl : k = j := by simpa [queue] using ended.jobs h
      exact hk)
    refine ⟨_, State.pulseCompletion_decides ha (by simp [hq]), fun hout hm hp => ?_, fun hout hm hp => ?_, fun hin => ?_⟩
    · obtain ⟨u, before, after⟩ := State.resetByPulse_stops (State.losesLink_iff.mpr ⟨i, hopen, hout, hh⟩)
      have run := after.trans rest
      rw [State.stopChannel_of_still (by rw [before.chan, hrun]) (by rw [before.moving, hm])] at run
      refine ⟨?_, run.held (by simp [State.afterRunEnd, before.chan])⟩
      exact run.chan ▸ by cases c <;> rfl
    · obtain ⟨u, before, after⟩ := State.resetByPulse_stops (State.losesLink_iff.mpr ⟨i, hopen, hout, hh⟩)
      have run := after.trans rest
      rw [State.stopChannel_of_moving (by rw [before.chan, hrun]) (by rw [before.moving, hm]), before.chan] at run
      have chan := run.chan.trans (State.chan_setChan_same u c _)
      exact ⟨congrArg Channel.running chan |>.trans hrun, congrArg Channel.stopPending chan |>.trans (by simp [hp])⟩
    · have spared : s.losesLink c = false := Bool.eq_false_iff.mpr fun h => by
        obtain ⟨k, -, hout, hk⟩ := State.losesLink_iff.mp h
        obtain ⟨-, hlink', -⟩ := holds k hk
        obtain rfl := hlink.symm.trans hlink'
        exact absurd (hin.symm.trans hout) (by simp)
      have run := (State.resetByPulse_spares spared).trans rest
      exact ⟨(congrArg Channel.running run.chan).trans hrun, (run.input i hin hh).2⟩
  case bound =>
    intro s base j x rest e c i k ha hw hq hj hlen hx hk hscan he hbase hopen hout hh hrun
    have pulse : s.afterPulse = base := by
      rw [State.afterPulse_eq hw hscan, hbase, show Link.busReset = _ from funext Link.busReset_eq]
      rfl
    have hbus := State.pulseCompletion_decides ha (by simp [hq] : s.seq.state ≠ .idle)
    have hc := State.losesLink_iff.mpr ⟨i, hopen, hout, hh⟩
    rw [← Job.endRecord_busReset hk] at he
    have hjob : base.activeJob = some (j, x) := State.activeJob_eq (by rw [hbase]; exact hj) (by rw [hbase]; exact hx)
    have mover : base.mover = s.mover := by rw [hbase]
    have held : base.events.held = s.events.held := by rw [hbase]
    have chan (d : Chan) : base.chan d = s.chan d := congrArg (·.chan d) mover
    have moving (d : Chan) : base.moving d = s.moving d := by rw [State.moving, mover]; rfl
    subst he
    constructor
    · intro hnone
      have ho : s.losesLink c.other = false := Bool.eq_false_iff.mpr fun h => by
        obtain ⟨n, hopen, hout, hh⟩ := State.losesLink_iff.mp h
        exact hnone n hopen hout hh
      rw [State.resetByPulse_of_one hc ho, pulse, ← held] at hbus
      exact ⟨_, State.endJobSince_stopping hjob (by rw [chan, hrun]) .lost .done, hbus⟩
    · intro hopen' hout' hh' hrun'
      have both := State.resetByPulse_of_both hc (State.losesLink_iff.mpr ⟨k, hopen', hout', hh'⟩)
      rw [pulse] at both
      let u := base.setFreeTick (s.freeTick + 1)
      have urun : (u.chan c).running = true := (congrArg Channel.running (chan c)).trans hrun
      have urun' : (u.chan c.other).running = true := (congrArg Channel.running (chan c.other)).trans hrun'
      constructor
      · intro hm
        have um : u.moving c = true := (moving c).trans hm
        have stops : s.busToFree.resetByPulse = (u.stopChannel c .lost).stopChannel c.other .lost :=
          both.elim id fun h => h.trans (State.stopChannel_comm_of_moving urun urun' um)
        rw [stops, State.stopChannel_of_moving urun um, ← held] at hbus
        refine ⟨_, ?_, hbus⟩
        have ends := State.endJobSince_stopping (s := { u with mover := u.mover.setChan c { u.chan c with
          stopPending := some ((u.chan c).stopPending.getD .lost) } }) hjob (c := c.other) (by cases c <;> exact urun')
          .lost .done
        rw [← mover, ← chan c]
        exact ends
      · intro hm hm'
        have um : u.moving c = false := (moving c).trans hm
        have um' : u.moving c.other = false := (moving c.other).trans hm'
        obtain ⟨records, perm, ended⟩ := State.endJobSince_stopping_both (s := u) hjob urun urun' um um' both .done
        refine ⟨records, by rw [← chan, ← chan]; exact perm, ?_⟩
        rw [hbus, ← held]
        exact congrArg (fun t => Host.Outcome.next (State.decide t)) ended

end


/-! # What the laws of pages, of mover bindings, of endpoints and of rings look at (R59 to R63, R70, R80)

These laws speak of the link table, of the free pages and of the two mover channels. `Tables` gathers the three, and
`Tables.Quiet` and `Tables.Step` list all that an event can do to them, so that each law is shown once for each kind of
change. -/

namespace Sys2Proof.Machine

/-! ### The tables -/

/-- The links, the free pages and the mover channels. -/
structure Tables where
  link : LinkIndex → Link
  free : List Page
  chan : Chan → Channel

/-- The tables of a state. -/
def State.tables (s : State) : Tables := { link := s.link, free := s.freePages, chan := s.chan }

@[simp] theorem State.tables_link (s : State) : s.tables.link = s.link := rfl
@[simp] theorem State.tables_free (s : State) : s.tables.free = s.freePages := rfl
@[simp] theorem State.tables_chan (s : State) : s.tables.chan = s.chan := rfl

namespace Tables
variable (r : Tables)

/-- A link record is replaced. -/
def setLink (i : LinkIndex) (l : Link) : Tables := { r with link := Function.update r.link i l }

/-- A mover channel is replaced. -/
def setChan (c : Chan) (x : Channel) : Tables := { r with chan := Function.update r.chan c x }

/-- The end of a run (R167). -/
def endRun (c : Chan) : Tables :=
  (r.setLink (r.chan c).link ((r.link (r.chan c).link).release c)).setChan c
    { r.chan c with running := false, stopPending := none }

/-- The start of a run (R157). -/
def startRun (c : Chan) : Tables :=
  (r.setLink (r.chan c).link { r.link (r.chan c).link with holder := some c }).setChan c
    { r.chan c with running := true, dir := (r.link (r.chan c).link).dir, moved := 0, stopPending := none }

/-- The close of a link, before its channel is stopped (R67). -/
def close (i : LinkIndex) : Tables :=
  { r.setLink i (r.link i).closed with
    free := allPages.filter fun p => r.free.contains p || (r.link i).pages.contains p }

/-- An Open link becomes Shutting, before its channel is stopped (R65). -/
def shut (i : LinkIndex) : Tables := r.setLink i { r.link i with state := .shutting, holder := none }

/-- A bus reset, before the channels it stops (R68). -/
def busReset : Tables := { r with link := fun i => (r.link i).busReset }

@[simp] theorem setLink_link (i l) : (r.setLink i l).link = Function.update r.link i l := rfl
@[simp] theorem setLink_free (i l) : (r.setLink i l).free = r.free := rfl
@[simp] theorem setLink_chan (i l) : (r.setLink i l).chan = r.chan := rfl
@[simp] theorem setChan_link (c x) : (r.setChan c x).link = r.link := rfl
@[simp] theorem setChan_free (c x) : (r.setChan c x).free = r.free := rfl
@[simp] theorem setChan_chan (c x) : (r.setChan c x).chan = Function.update r.chan c x := rfl
@[simp] theorem endRun_link (c) :
    (r.endRun c).link = Function.update r.link (r.chan c).link ((r.link (r.chan c).link).release c) := rfl
@[simp] theorem endRun_free (c) : (r.endRun c).free = r.free := rfl
@[simp] theorem endRun_chan (c) :
    (r.endRun c).chan = Function.update r.chan c { r.chan c with running := false, stopPending := none } := rfl
@[simp] theorem startRun_link (c) :
    (r.startRun c).link = Function.update r.link (r.chan c).link { r.link (r.chan c).link with holder := some c } := rfl
@[simp] theorem startRun_free (c) : (r.startRun c).free = r.free := rfl
@[simp] theorem startRun_chan (c) : (r.startRun c).chan = Function.update r.chan c
    { r.chan c with running := true, dir := (r.link (r.chan c).link).dir, moved := 0, stopPending := none } := rfl
@[simp] theorem close_link (i) : (r.close i).link = Function.update r.link i (r.link i).closed := rfl
@[simp] theorem close_free (i) :
    (r.close i).free = allPages.filter fun p => r.free.contains p || (r.link i).pages.contains p := rfl
@[simp] theorem close_chan (i) : (r.close i).chan = r.chan := rfl
@[simp] theorem shut_link (i) :
    (r.shut i).link = Function.update r.link i { r.link i with state := .shutting, holder := none } := rfl
@[simp] theorem shut_free (i) : (r.shut i).free = r.free := rfl
@[simp] theorem shut_chan (i) : (r.shut i).chan = r.chan := rfl
@[simp] theorem busReset_link (i) : r.busReset.link i = (r.link i).busReset := rfl
@[simp] theorem busReset_free : r.busReset.free = r.free := rfl
@[simp] theorem busReset_chan : r.busReset.chan = r.chan := rfl

end Tables

/-! ### What an event can do to the tables -/

/-- What the agents of a ring do to a link record: its state, endpoint, pages and holder stay, and the ring keeps to its
bounds. Bytes join an OUT ring alone, within its space, and a mark is placed on an OUT ring no channel holds (R73 to R78). -/
structure Link.Edited (l l' : Link) : Prop where
  state : l'.state = l.state
  station : l'.station = l.station
  channel : l'.channel = l.channel
  dir : l'.dir = l.dir
  pages : l'.pages = l.pages
  holder : l'.holder = l.holder
  count : l'.count ≤ l.count ∨ (l.dir = .output ∧ l'.count ≤ l.capacity)
  marks : l'.marks ≤ l.marks ∨ (l.dir = .output ∧ l.holder = none ∧ l'.marks ≤ Config.markLimit)

/-- A channel's new value that leaves its run, its link and its mode as they were. -/
structure Channel.SameRun (x x' : Channel) : Prop where
  running : x'.running = x.running
  link : x'.link = x.link
  mode : x'.mode = x.mode
  stopPending : x'.stopPending = x.stopPending

namespace Tables

/-- An outside stop reaches a channel (R166). -/
inductive Stops (c : Chan) (r : Tables) : Tables → Prop
  | idle (h : (r.chan c).running = false) : Stops c r r
  | pending (v : StopReason) : Stops c r (r.setChan c { r.chan c with stopPending := some v })
  | ended : Stops c r (r.endRun c)

/-- Outside stops reach some channels in turn. -/
inductive StopAll : List Chan → Tables → Tables → Prop
  | nil (r : Tables) : StopAll [] r r
  | cons {c : Chan} {cs : List Chan} {r t u : Tables} (h : Stops c r t) (hs : StopAll cs t u) : StopAll (c :: cs) r u

/-- What an event can do to the tables with no link opened, shut or closed. -/
inductive Quiet (r : Tables) : Tables → Prop
  | edit (i : LinkIndex) (l : Link) (h : (r.link i).Edited l) : Quiet r (r.setLink i l)
  | count (c : Chan) (x : Channel) (h : (r.chan c).SameRun x) : Quiet r (r.setChan c x)
  | program (c : Chan) (x : Channel) (idle : (r.chan c).running = false) (idle' : x.running = false) :
    Quiet r (r.setChan c x)
  | start (c : Chan) (idle : (r.chan c).running = false) (state : (r.link (r.chan c).link).state ≠ .closed)
    (free : (r.link (r.chan c).link).holder = none)
    (room : (r.link (r.chan c).link).dir = .output → (r.chan c).mode = true →
      (r.link (r.chan c).link).marks < Config.markLimit) : Quiet r (r.startRun c)
  | stop (c : Chan) {t : Tables} (h : Stops c r t) : Quiet r t
  | lastByte (c : Chan) (v : Byte) (x : Channel) (h : (r.chan c).SameRun x) (mode : (r.chan c).mode = true)
    (dir : (r.link (r.chan c).link).dir = .output) (holder : (r.link (r.chan c).link).holder = some c)
    (space : 0 < (r.link (r.chan c).link).space) :
    Quiet r (((r.setLink (r.chan c).link ((r.link (r.chan c).link).append v true)).setChan c x).endRun c)
  | lose (cs : List Chan) {t : Tables}
    (mem : ∀ c, c ∈ cs ↔ ∃ i, (r.link i).state = .opened ∧ (r.link i).dir = .output ∧ (r.link i).holder = some c)
    (h : StopAll cs r.busReset t) : Quiet r t

/-- What an event can do to the tables. `rooms` says that a TAKE's byte finds an IN ring with room for it and its mark, and
`opens` that the link an OPEN job opens is not Closed: a law that rests on one of them asks for it. -/
inductive Step (rooms opens : Prop) (r : Tables) : Tables → Prop
  | quiet {t : Tables} (h : Quiet r t) : Step rooms opens r t
  | take (i : LinkIndex) (v : Byte) (m : Bool)
    (room : rooms → (r.link i).dir = .input ∧ (r.link i).count < (r.link i).capacity ∧
      (r.link i).marks < Config.markLimit) : Step rooms opens r (r.setLink i ((r.link i).takeAppend v m))
  | opened (i : LinkIndex) (bound : opens → (r.link i).bound = true) :
    Step rooms opens r (r.setLink i { r.link i with state := .opened })
  | claim (i : LinkIndex) (st : StationIndex) (ch : BitVec 3) (d : Dir) (n : Nat) (closed : (r.link i).state = .closed)
    (endpoint : ∀ j, j ≠ i → (r.link j).binds st ch d = false) :
    Step rooms opens r
      { r.setLink i ((r.link i).openWith st ch d (r.free.take n)) with free := r.free.drop n }
  | close (i : LinkIndex) {t : Tables} (h : StopAll (r.link i).holder.toList (r.close i) t) : Step rooms opens r t
  | shut (i : LinkIndex) (state : (r.link i).state = .opened) {t : Tables}
    (h : StopAll (r.link i).holder.toList (r.shut i) t) : Step rooms opens r t
  | softReset :
    Step rooms opens r
      { link := fun i => if (r.link i).bound then (r.link i).closed else { r.link i with holder := none }
        free := allPages
        chan := fun c => (r.chan c).softReset }
  | pinReset :
    Step rooms opens r { link := fun _ => Link.reset, free := allPages, chan := fun _ => Channel.reset }

end Tables

end Sys2Proof.Machine

namespace Sys2Proof.Machine

/-! ### What a quiet event keeps of a link -/

/-- What an event that opens, shuts and closes no link keeps of a link record: it may at most be lost, its endpoint and pages
stay, and an IN ring gains neither bytes nor marks. -/
structure Link.Kept (l l' : Link) : Prop where
  state : l'.state = l.state ∨ (l.state = .opened ∧ l'.state = .lost)
  station : l'.station = l.station
  channel : l'.channel = l.channel
  dir : l'.dir = l.dir
  pages : l'.pages = l.pages
  count : l.dir = .input → l'.count ≤ l.count
  marks : l.dir = .input → l'.marks ≤ l.marks

theorem Link.Kept.refl (l : Link) : l.Kept l := ⟨.inl rfl, rfl, rfl, rfl, rfl, fun _ => le_rfl, fun _ => le_rfl⟩

theorem Link.Kept.trans {l m n : Link} (h : l.Kept m) (g : m.Kept n) : l.Kept n where
  state := by
    rcases h.state with hs | ⟨ho, hl⟩ <;> rcases g.state with gs | ⟨go, gl⟩ <;> simp_all
  station := g.station.trans h.station
  channel := g.channel.trans h.channel
  dir := g.dir.trans h.dir
  pages := g.pages.trans h.pages
  count d := (g.count (h.dir.trans d)).trans (h.count d)
  marks d := (g.marks (h.dir.trans d)).trans (h.marks d)

theorem Link.Kept.of_holder (l : Link) (x : Option Chan) : l.Kept { l with holder := x } :=
  ⟨.inl rfl, rfl, rfl, rfl, rfl, fun _ => le_rfl, fun _ => le_rfl⟩

theorem Link.Edited.kept {l l' : Link} (h : l.Edited l') : l.Kept l' where
  state := .inl h.state
  station := h.station
  channel := h.channel
  dir := h.dir
  pages := h.pages
  count d := h.count.resolve_right (by simp [d])
  marks d := h.marks.resolve_right (by simp [d])

theorem Link.release_kept (l : Link) (c : Chan) : l.Kept (l.release c) := by
  unfold Link.release; split
  · exact .of_holder l none
  · exact .refl l

theorem Link.busReset_kept (l : Link) : l.Kept l.busReset := by
  unfold Link.busReset; split
  next h => exact ⟨.inr ⟨h, rfl⟩, rfl, rfl, rfl, rfl, fun _ => le_rfl, fun _ => le_rfl⟩
  next => exact .refl l

/-- Bytes may join an OUT ring. -/
theorem Link.append_kept (l : Link) (v : Byte) (m : Bool) (h : l.dir = .output) : l.Kept (l.append v m) :=
  ⟨.inl rfl, rfl, rfl, rfl, rfl, by simp [h], by simp [h]⟩

theorem kept_update {f : LinkIndex → Link} {i : LinkIndex} {l : Link} (h : (f i).Kept l) (k : LinkIndex) :
    (f k).Kept (Function.update f i l k) := by
  by_cases hk : k = i
  · subst hk; simpa using h
  · simpa [hk] using Link.Kept.refl (f k)

namespace Tables

theorem endRun_kept (r : Tables) (c : Chan) (i : LinkIndex) : (r.link i).Kept ((r.endRun c).link i) :=
  kept_update (Link.release_kept _ c) i

theorem Stops.kept {c : Chan} {r t : Tables} (h : Stops c r t) (i : LinkIndex) :
    (r.link i).Kept (t.link i) ∧ t.free = r.free := by
  cases h with
  | idle | pending => exact ⟨.refl _, rfl⟩
  | ended => exact ⟨r.endRun_kept c i, rfl⟩

theorem StopAll.kept {cs : List Chan} {r t : Tables} (h : StopAll cs r t) (i : LinkIndex) :
    (r.link i).Kept (t.link i) ∧ t.free = r.free := by
  induction h with
  | nil => exact ⟨.refl _, rfl⟩
  | cons hs _ ih => exact ⟨(hs.kept i).1.trans ih.1, ih.2.trans (hs.kept i).2⟩

theorem Quiet.kept {r t : Tables} (h : Quiet r t) (i : LinkIndex) : (r.link i).Kept (t.link i) ∧ t.free = r.free := by
  cases h with
  | edit k l h => exact ⟨kept_update h.kept i, rfl⟩
  | count | program => exact ⟨.refl _, rfl⟩
  | start c => exact ⟨kept_update (.of_holder _ (some c)) i, rfl⟩
  | stop c h => exact h.kept i
  | lastByte c v x _ _ dir =>
    exact ⟨(kept_update (Link.append_kept _ v true dir) i).trans (endRun_kept (setChan (r.setLink _ _) c x) c i), rfl⟩
  | lose cs _ h => exact ⟨(Link.busReset_kept _).trans (h.kept i).1, (h.kept i).2⟩

end Tables

/-! ### The law of the pages (R59, R60, R61) -/

/-- How often a page is lent. -/
def Tables.lent (r : Tables) (p : Page) : Nat := ∑ i, (r.link i).pages.count p

/-- The law of the pages, with each page counted. -/
structure Tables.PageLaw (r : Tables) : Prop where
  once : ∀ p, r.free.count p + r.lent p = 1
  sorted : r.free.Pairwise (· < ·)
  closed : ∀ i, (r.link i).state = .closed → (r.link i).pages = []

theorem allPages_count (p : Page) : allPages.count p = 1 := by revert p; decide

theorem State.pageLaw_iff (s : State) : s.PageLaw ↔ s.tables.PageLaw := by
  have hl : s.links.toList = List.ofFn s.link := by
    refine List.ext_getElem (by simp only [Vector.length_toList, List.length_ofFn]) fun i _ _ => ?_
    simp only [List.getElem_ofFn, Vector.getElem_toList]; rfl
  have hsum (p : Page) : (s.links.toList.flatMap (·.pages)).count p = s.tables.lent p := by
    rw [hl, List.count_flatMap, List.map_ofFn, List.sum_ofFn]; rfl
  have honce : (s.freePages ++ s.links.toList.flatMap (·.pages)).Perm allPages ↔
      ∀ p, s.freePages.count p + s.tables.lent p = 1 := by
    simp only [List.perm_iff_count, List.count_append, hsum, allPages_count]
  exact ⟨fun ⟨perm, sorted, closed⟩ => ⟨honce.mp perm, sorted, closed⟩,
    fun ⟨once, sorted, closed⟩ => ⟨honce.mpr once, sorted, closed⟩⟩

namespace Tables
variable {r t : Tables}

/-- What the replacement of a link record does to the pages lent. -/
theorem lent_setLink (r : Tables) (i : LinkIndex) (l : Link) (p : Page) :
    (r.setLink i l).lent p + (r.link i).pages.count p = r.lent p + l.pages.count p := by
  have hrest : ∑ k ∈ Finset.univ.erase i, ((r.setLink i l).link k).pages.count p =
      ∑ k ∈ Finset.univ.erase i, (r.link k).pages.count p :=
    Finset.sum_congr rfl fun k hk => by simp [Finset.ne_of_mem_erase hk]
  have hnew := Finset.add_sum_erase Finset.univ (fun k => ((r.setLink i l).link k).pages.count p) (Finset.mem_univ i)
  have hold := Finset.add_sum_erase Finset.univ (fun k => (r.link k).pages.count p) (Finset.mem_univ i)
  simp only [setLink_link, Function.update_self] at hnew hrest
  simp only [lent, setLink_link]
  omega

/-- Pages that stay where they are keep the law. -/
theorem PageLaw.of_pages (h : r.PageLaw) (hf : t.free = r.free) (hp : ∀ i, (t.link i).pages = (r.link i).pages)
    (hc : ∀ i, (t.link i).state = .closed → (r.link i).state = .closed) : t.PageLaw where
  once p := by simpa only [hf, lent, hp] using h.once p
  sorted := hf ▸ h.sorted
  closed i hi := (hp i).trans (h.closed i (hc i hi))

theorem PageLaw.of_kept (h : r.PageLaw) (hk : ∀ i, (r.link i).Kept (t.link i) ∧ t.free = r.free) : t.PageLaw :=
  h.of_pages (hk 0).2 (fun i => (hk i).1.pages) fun i hi => by
    rcases (hk i).1.state with hs | ⟨-, hs⟩ <;> simp_all

theorem PageLaw.take_setLink (h : r.PageLaw) (i : LinkIndex) (v : Byte) (m : Bool) :
    (r.setLink i ((r.link i).takeAppend v m)).PageLaw :=
  h.of_pages rfl
    (fun k => by by_cases hk : k = i <;> simp [hk, Link.takeAppend, Link.append])
    (fun k => by by_cases hk : k = i <;> simp [hk, Link.takeAppend, Link.append])

/-- An open claim lends the lowest pages of the free set (R60). -/
theorem PageLaw.claim (h : r.PageLaw) (i : LinkIndex) (st ch d n) (closed : (r.link i).state = .closed) :
    ({ r.setLink i ((r.link i).openWith st ch d (r.free.take n)) with free := r.free.drop n } : Tables).PageLaw where
  once p := by
    have hsum := r.lent_setLink i ((r.link i).openWith st ch d (r.free.take n)) p
    have hfree : (r.free.take n).count p + (r.free.drop n).count p = r.free.count p := by
      rw [← List.count_append, List.take_append_drop]
    rw [h.closed i closed, List.count_nil] at hsum
    have := h.once p
    change (r.free.drop n).count p + (r.setLink i _).lent p = 1
    simp only [Link.openWith] at hsum ⊢
    omega
  sorted := h.sorted.sublist (List.drop_sublist ..)
  closed k hk := by
    by_cases hki : k = i
    · simp [hki, Link.openWith] at hk
    · simpa [hki] using h.closed k (by simpa [hki] using hk)

/-- A close returns the pages of its link, lowest first (R61). -/
theorem PageLaw.close (h : r.PageLaw) (i : LinkIndex) : (r.close i).PageLaw where
  once p := by
    have hsum := r.lent_setLink i (r.link i).closed p
    have hone := h.once p
    have hle : (r.link i).pages.count p ≤ r.lent p :=
      Finset.single_le_sum (f := fun k => (r.link k).pages.count p) (fun _ _ => Nat.zero_le _) (Finset.mem_univ i)
    have hfree : (r.close i).free.count p = r.free.count p + (r.link i).pages.count p := by
      rw [close_free]
      by_cases hp : p ∈ r.free ∨ p ∈ (r.link i).pages
      · rw [List.count_filter (by simpa using hp), allPages_count]
        rcases hp with hp | hp <;> have := List.count_pos_iff.mpr hp <;> omega
      · rw [List.count_eq_zero.mpr (by simp [hp]), List.count_eq_zero.mpr fun g => hp (.inl g),
          List.count_eq_zero.mpr fun g => hp (.inr g)]
    change (r.close i).free.count p + (r.setLink i _).lent p = 1
    simp only [Link.closed, List.count_nil] at hsum ⊢
    omega
  sorted := by
    rw [close_free]
    exact List.Pairwise.sublist List.filter_sublist (by decide)
  closed k hk := by
    by_cases hki : k = i
    · simp [hki, Link.closed]
    · simpa [hki] using h.closed k (by simpa [hki] using hk)

/-- With no page lent and all of them free, the law holds. -/
theorem PageLaw.of_all_free (hf : t.free = allPages) (hp : ∀ i, (t.link i).pages = []) : t.PageLaw where
  once p := by simp [hf, lent, hp, allPages_count]
  sorted := hf ▸ by decide
  closed i _ := hp i

theorem Step.pageLaw (h : Step False False r t) (hr : r.PageLaw) : t.PageLaw := by
  cases h with
  | quiet h => exact hr.of_kept h.kept
  | take i v m => exact hr.take_setLink i v m
  | opened i =>
    refine hr.of_pages rfl (fun k => ?_) fun k => ?_ <;> by_cases hk : k = i <;> simp [hk]
  | claim i st ch d n closed => exact hr.claim i st ch d n closed
  | close i h => exact (hr.close i).of_kept h.kept
  | shut i state h =>
    refine PageLaw.of_kept (r := r.shut i) (hr.of_pages rfl (fun k => ?_) fun k => ?_) h.kept <;>
      by_cases hk : k = i <;> simp [hk]
  | softReset =>
    refine .of_all_free rfl fun i => ?_
    by_cases hb : (r.link i).bound
    · simp [hb, Link.closed]
    · simpa [hb] using hr.closed i (by simpa [Link.bound] using hb)
  | pinReset => exact .of_all_free rfl fun _ => rfl

end Tables

/-! ### The law of mover bindings (R80) -/

/-- The law of mover bindings for one channel. -/
structure Tables.Bound (r : Tables) (c : Chan) : Prop where
  held : ∀ i, (r.link i).holder = some c →
    (r.chan c).running = true ∧ (r.chan c).link = i ∧ (r.link i).state ≠ .closed
  holds : (r.chan c).running = true → (r.chan c).stopPending = none → (r.link (r.chan c).link).holder = some c

/-- No link has this holder. -/
def Tables.Unheld (r : Tables) (c : Chan) : Prop := ∀ i, (r.link i).holder ≠ some c

theorem State.holderLaw_iff (s : State) : s.HolderLaw ↔ ∀ c, s.tables.Bound c := by
  constructor
  · intro h c
    obtain ⟨held, holds⟩ := h c (by cases c <;> simp)
    exact ⟨held, holds⟩
  · exact fun h c _ => ⟨(h c).held, (h c).holds⟩

theorem Link.release_holder (l : Link) (c : Chan) :
    (l.release c).holder = if l.holder = some c then none else l.holder := by
  unfold Link.release; split <;> rfl

theorem Link.release_state (l : Link) (c : Chan) : (l.release c).state = l.state := by
  unfold Link.release; split <;> rfl

namespace Tables
variable {r t : Tables}

/-- The holders after the end of a run: the channel holds no link that it was programmed with, and the rest stay. -/
theorem endRun_holder (r : Tables) (c : Chan) (i : LinkIndex) :
    ((r.endRun c).link i).holder =
      if i = (r.chan c).link ∧ (r.link i).holder = some c then none else (r.link i).holder := by
  by_cases hi : i = (r.chan c).link
  · subst hi; simp [Link.release_holder]
  · simp [hi]

theorem endRun_state (r : Tables) (c : Chan) (i : LinkIndex) : ((r.endRun c).link i).state = (r.link i).state := by
  by_cases hi : i = (r.chan c).link
  · subst hi; simp [Link.release_state]
  · simp [hi]

theorem Stops.bound_other {c c' : Chan} (h : Stops c r t) (hc : c' ≠ c) (hb : r.Bound c') : t.Bound c' := by
  cases h with
  | idle => exact hb
  | pending v => exact ⟨by simpa [hc] using hb.held, by simpa [hc] using hb.holds⟩
  | ended =>
    refine ⟨fun i hi => ?_, fun hr hs => ?_⟩
    · rw [endRun_holder] at hi
      rw [endRun_state]
      simpa [hc] using hb.held i (by split at hi <;> simp_all)
    · simp only [endRun_chan, Function.update_of_ne hc] at hr hs ⊢
      have := hb.holds hr hs
      rw [endRun_holder, if_neg, this]
      rintro ⟨-, h⟩
      exact hc (by simpa [this] using h)

theorem Stops.unheld {c c' : Chan} (h : Stops c r t) (hu : r.Unheld c') : t.Unheld c' := by
  cases h with
  | idle => exact hu
  | pending v => exact hu
  | ended =>
    intro i hi
    rw [endRun_holder] at hi
    exact hu i (by split at hi <;> simp_all)

/-- A channel whose run is stopped keeps the law: its link is released, or has been. -/
theorem Stops.bound_self {c : Chan} (h : Stops c r t) (hb : r.Bound c ∨ r.Unheld c) : t.Bound c := by
  cases h with
  | idle hr =>
    rcases hb with hb | hu
    · exact hb
    · exact ⟨fun i hi => absurd hi (hu i), fun hr' => by simp [hr] at hr'⟩
  | pending v =>
    refine ⟨fun i hi => ?_, by simp⟩
    rcases hb with hb | hu
    · simpa using hb.held i hi
    · exact absurd hi (hu i)
  | ended =>
    refine ⟨fun i hi => ?_, by simp⟩
    rw [endRun_holder] at hi
    rcases hb with hb | hu
    · split at hi
      · simp at hi
      next hn => exact absurd ⟨(hb.held i hi).2.1.symm, hi⟩ hn
    · exact absurd (by split at hi <;> simp_all) (hu i)

/-- Channels whose links are gone keep the law once they are stopped. -/
theorem StopAll.bound {cs : List Chan} (h : StopAll cs r t) (hb : ∀ c, r.Bound c ∨ (c ∈ cs ∧ r.Unheld c)) (c : Chan) :
    t.Bound c := by
  induction h with
  | nil => simpa using hb c
  | @cons d cs r t u hs _ ih =>
    refine ih fun c' => ?_
    by_cases hc : c' = d
    · subst hc; exact .inl (hs.bound_self ((hb c').imp_right (·.2)))
    · rcases hb c' with hb | ⟨hm, hu⟩
      · exact .inl (hs.bound_other hc hb)
      · exact .inr ⟨(List.mem_cons.mp hm).resolve_left hc, hs.unheld hu⟩

/-- New link records that keep their holders, on links that are not Closed, keep the law. -/
theorem Bound.of_links {c : Chan} (hb : r.Bound c) (hc : t.chan c = r.chan c)
    (hh : ∀ i, (t.link i).holder = some c ↔ (r.link i).holder = some c)
    (hs : ∀ i, (r.link i).holder = some c → (r.link i).state ≠ .closed → (t.link i).state ≠ .closed) : t.Bound c where
  held i hi := by
    obtain ⟨run, link, state⟩ := hb.held i ((hh i).mp hi)
    exact ⟨hc ▸ run, hc ▸ link, hs i ((hh i).mp hi) state⟩
  holds hr hp := (hh _).mpr (by rw [hc] at hr hp ⊢; exact hb.holds hr hp)

/-- One link record is replaced by one with the same holder. -/
theorem Bound.setLink {c : Chan} (hb : r.Bound c) {i : LinkIndex} {l : Link} (hh : l.holder = (r.link i).holder)
    (hs : (r.link i).state ≠ .closed → l.state ≠ .closed) : (r.setLink i l).Bound c := by
  refine hb.of_links rfl (fun k => ?_) fun k _ hk => ?_ <;> by_cases hki : k = i
  · subst hki; simp [hh]
  · simp [hki]
  · subst hki; simpa using hs hk
  · simpa [hki] using hk

/-- A link loses its holder, which is to be stopped (R65, R67). -/
theorem Bound.of_unbound {c : Chan} (hb : r.Bound c) {i : LinkIndex} (hc : t.chan = r.chan)
    (hi : (t.link i).holder = none) (hk : ∀ k, k ≠ i → t.link k = r.link k) :
    t.Bound c ∨ (c ∈ (r.link i).holder.toList ∧ t.Unheld c) := by
  by_cases hh : (r.link i).holder = some c
  · refine .inr ⟨by simp [hh], fun k hkc => ?_⟩
    by_cases hki : k = i
    · subst hki; simp [hi] at hkc
    · rw [hk k hki] at hkc
      exact hki ((hb.held k hkc).2.1.symm.trans (hb.held i hh).2.1)
  · refine .inl (hb.of_links (by rw [hc]) (fun k => ?_) fun k hkc hs => ?_) <;> by_cases hki : k = i
    · subst hki; simp [hi, hh]
    · rw [hk k hki]
    · subst hki; exact absurd hkc hh
    · rwa [hk k hki]

theorem Bound.setChan_sameRun {c : Chan} (hb : r.Bound c) (c' : Chan) {x : Channel} (h : (r.chan c').SameRun x) :
    (r.setChan c' x).Bound c := by
  by_cases hc : c = c'
  · subst hc
    exact ⟨by simpa [h.running, h.link] using hb.held, by simpa [h.running, h.link, h.stopPending] using hb.holds⟩
  · exact ⟨by simpa [hc] using hb.held, by simpa [hc] using hb.holds⟩

/-- An Idle channel holds no link. -/
theorem Bound.unheld_of_idle {c : Chan} (hb : r.Bound c) (idle : (r.chan c).running = false) : r.Unheld c :=
  fun i hi => by simpa [idle] using (hb.held i hi).1

/-- The start of a run binds its channel to a link that no channel held (R80, R157). -/
theorem Bound.startRun {c : Chan} (hb : r.Bound c) (d : Chan) (idle : (r.chan d).running = false)
    (state : (r.link (r.chan d).link).state ≠ .closed) (free : (r.link (r.chan d).link).holder = none) :
    (r.startRun d).Bound c := by
  by_cases hc : c = d
  · subst hc
    have hu := hb.unheld_of_idle idle
    refine ⟨fun i hi => ?_, by simp⟩
    by_cases hik : i = (r.chan c).link
    · subst hik; simpa using state
    · exact absurd (by simpa [hik] using hi) (hu i)
  · have hd : d ≠ c := fun g => hc g.symm
    refine hb.of_links (by simp [hc]) (fun i => ?_) fun i _ hs => ?_ <;> by_cases hik : i = (r.chan d).link
    · subst hik; simp [free, hd]
    · simp [hik]
    · subst hik; simpa using hs
    · simpa [hik] using hs

/-- A bus reset takes the holders of Open OUT links, which are to be stopped (R68). -/
theorem Bound.busReset {c : Chan} (hb : r.Bound c) {cs : List Chan}
    (mem : ∀ c, c ∈ cs ↔ ∃ i, (r.link i).state = .opened ∧ (r.link i).dir = .output ∧ (r.link i).holder = some c) :
    r.busReset.Bound c ∨ (c ∈ cs ∧ r.busReset.Unheld c) := by
  have holder (i : LinkIndex) : (r.busReset.link i).holder =
      if (r.link i).state = .opened ∧ (r.link i).dir = .output then none else (r.link i).holder := by
    rw [busReset_link]
    unfold Link.busReset
    cases hd : (r.link i).dir <;> by_cases hs : (r.link i).state = .opened <;> simp [hs]
  by_cases hc : c ∈ cs
  · obtain ⟨i, hs, hd, hh⟩ := (mem c).mp hc
    refine .inr ⟨hc, fun k hk => ?_⟩
    rw [holder] at hk
    split at hk
    · simp at hk
    next hn =>
      obtain rfl : i = k := (hb.held i hh).2.1.symm.trans (hb.held k hk).2.1
      exact hn ⟨hs, hd⟩
  · have hn (i : LinkIndex) (hh : (r.link i).holder = some c) : ¬((r.link i).state = .opened ∧ (r.link i).dir = .output) :=
      fun ⟨hs, hd⟩ => hc ((mem c).mpr ⟨i, hs, hd, hh⟩)
    refine .inl (hb.of_links rfl (fun i => ?_) fun i _ hs => ?_)
    · rw [holder]; split
      next h => simpa using fun hh => hn i hh h
      next => rfl
    · rcases (Link.busReset_kept (r.link i)).state with h | ⟨-, h⟩ <;> simp_all

theorem Quiet.bound (h : Quiet r t) (hr : ∀ c, r.Bound c) (c : Chan) : t.Bound c := by
  cases h with
  | edit i l h => exact (hr c).setLink h.holder (by simp [h.state])
  | count d x h => exact (hr c).setChan_sameRun d h
  | program d x idle idle' =>
    by_cases hc : c = d
    · subst hc
      exact ⟨fun i hi => absurd hi ((hr c).unheld_of_idle idle i), by simp [idle']⟩
    · exact ⟨by simpa [hc] using (hr c).held, by simpa [hc] using (hr c).holds⟩
  | start d idle state free => exact (hr c).startRun d idle state free
  | stop d h => exact StopAll.bound (.cons h (.nil _)) (fun c => .inl (hr c)) c
  | lastByte d v x h =>
    have hb (c : Chan) : ((r.setLink (r.chan d).link ((r.link (r.chan d).link).append v true)).setChan d x).Bound c :=
      ((hr c).setLink (by rfl) (by simp [Link.append])).setChan_sameRun d h
    exact StopAll.bound (.cons (.ended (c := d)) (.nil _)) (fun c => .inl (hb c)) c
  | lose cs mem h => exact h.bound (fun c => (hr c).busReset mem) c

theorem Step.bound {p q : Prop} (h : Step p q r t) (hr : ∀ c, r.Bound c) (c : Chan) : t.Bound c := by
  cases h with
  | quiet h => exact h.bound hr c
  | take i v m => exact (hr c).setLink rfl (by simp [Link.takeAppend, Link.append])
  | opened i => exact (hr c).setLink rfl (by simp)
  | claim i st ch d n closed =>
    have hn : (r.link i).holder ≠ some c := fun hh => ((hr c).held i hh).2.2 closed
    refine (hr c).of_links rfl (fun k => ?_) fun k hk hs => ?_ <;> by_cases hki : k = i
    · subst hki; simp [Link.openWith, hn]
    · simp [hki]
    · subst hki; exact absurd hk hn
    · simpa [hki] using hs
  | close i h =>
    exact h.bound (fun c => (hr c).of_unbound rfl (by simp [Link.closed]) fun k hk => by simp [hk]) c
  | shut i state h => exact h.bound (fun c => (hr c).of_unbound rfl (by simp) fun k hk => by simp [hk]) c
  | softReset =>
    refine ⟨fun i => ?_, by simp [Channel.softReset]⟩
    by_cases hb : (r.link i).bound <;> simp [hb, Link.closed]
  | pinReset => exact ⟨fun i hi => by simp [Link.reset] at hi, by simp [Channel.reset]⟩

end Tables
end Sys2Proof.Machine

namespace Sys2Proof.Machine

/-! ### The law of endpoints (R63) -/

/-- The law of endpoints, on the tables. -/
def Tables.EndpointLaw (r : Tables) : Prop :=
  ∀ i j : LinkIndex, i ≠ j → (r.link i).bound = true → (r.link j).bound = true →
    ¬((r.link i).station = (r.link j).station ∧ (r.link i).channel = (r.link j).channel ∧
      (r.link i).dir = (r.link j).dir)

theorem State.endpointLaw_iff (s : State) : s.EndpointLaw ↔ s.tables.EndpointLaw := Iff.rfl

/-- A bound link was bound before, to the same endpoint. -/
structure Link.SameEndpoint (l l' : Link) : Prop where
  bound : l'.bound = true → l.bound = true
  station : l'.station = l.station
  channel : l'.channel = l.channel
  dir : l'.dir = l.dir

theorem Link.SameEndpoint.refl (l : Link) : l.SameEndpoint l := ⟨id, rfl, rfl, rfl⟩

theorem Link.Kept.sameEndpoint {l l' : Link} (h : l.Kept l') : l.SameEndpoint l' where
  bound := by rcases h.state with hs | ⟨ho, -⟩ <;> simp_all [Link.bound]
  station := h.station
  channel := h.channel
  dir := h.dir

theorem sameEndpoint_update {f : LinkIndex → Link} {i : LinkIndex} {l : Link} (h : (f i).SameEndpoint l)
    (k : LinkIndex) : (f k).SameEndpoint (Function.update f i l k) := by
  by_cases hk : k = i
  · subst hk; simpa using h
  · simpa [hk] using Link.SameEndpoint.refl (f k)

theorem Link.closed_not_bound (l : Link) : l.closed.bound = false := rfl

theorem Link.binds_iff (l : Link) (st : StationIndex) (ch : BitVec 3) (d : Dir) :
    l.binds st ch d = true ↔ l.bound = true ∧ l.station = st ∧ l.channel = ch ∧ l.dir = d := by
  simp [Link.binds, and_assoc]

namespace Tables
variable {r t : Tables}

theorem EndpointLaw.of_same (h : r.EndpointLaw) (hs : ∀ i, (r.link i).SameEndpoint (t.link i)) : t.EndpointLaw := by
  intro i j hij hi hj ⟨hst, hch, hd⟩
  refine h i j hij ((hs i).bound hi) ((hs j).bound hj) ⟨?_, ?_, ?_⟩
  · rwa [← (hs i).station, ← (hs j).station]
  · rwa [← (hs i).channel, ← (hs j).channel]
  · rwa [← (hs i).dir, ← (hs j).dir]

/-- An open claim binds an endpoint that no other link binds (R63). -/
theorem EndpointLaw.claim (h : r.EndpointLaw) (i : LinkIndex) (st ch d) (pages : List Page) (free : List Page)
    (endpoint : ∀ j, j ≠ i → (r.link j).binds st ch d = false) :
    ({ r.setLink i ((r.link i).openWith st ch d pages) with free := free } : Tables).EndpointLaw := by
  have apart (j : LinkIndex) (hj : j ≠ i) (hb : (r.link j).bound = true) :
      ¬((r.link j).station = st ∧ (r.link j).channel = ch ∧ (r.link j).dir = d) := fun hend =>
    Bool.false_ne_true ((endpoint j hj).symm.trans ((Link.binds_iff ..).mpr ⟨hb, hend⟩))
  intro j k hjk hj hk
  by_cases hji : j = i
  · subst hji
    have hkj : k ≠ j := Ne.symm hjk
    simp only [setLink_link, Function.update_self, Function.update_of_ne hkj, Link.openWith] at hk ⊢
    exact fun ⟨hst, hch, hd⟩ => apart k hkj hk ⟨hst.symm, hch.symm, hd.symm⟩
  · by_cases hki : k = i
    · subst hki
      simp only [setLink_link, Function.update_self, Function.update_of_ne hji, Link.openWith] at hj ⊢
      exact apart j hji hj
    · simpa [hji, hki] using h j k hjk (by simpa [hji] using hj) (by simpa [hki] using hk)

theorem Step.endpointLaw {p : Prop} (h : Step p True r t) (hr : r.EndpointLaw) : t.EndpointLaw := by
  cases h with
  | quiet h => exact hr.of_same fun i => (h.kept i).1.sameEndpoint
  | take i v m => exact hr.of_same (sameEndpoint_update ⟨id, rfl, rfl, rfl⟩)
  | opened i bound => exact hr.of_same (sameEndpoint_update ⟨fun _ => bound trivial, rfl, rfl, rfl⟩)
  | claim i st ch d n _ endpoint => exact hr.claim i st ch d _ _ endpoint
  | close i h =>
    have hc : (r.close i).EndpointLaw :=
      hr.of_same (sameEndpoint_update ⟨by simp [Link.closed_not_bound], rfl, rfl, rfl⟩)
    exact hc.of_same fun k => (h.kept k).1.sameEndpoint
  | shut i state h =>
    have hc : (r.shut i).EndpointLaw :=
      hr.of_same (sameEndpoint_update ⟨by simp [Link.bound, state], rfl, rfl, rfl⟩)
    exact hc.of_same fun k => (h.kept k).1.sameEndpoint
  | softReset =>
    refine hr.of_same fun i => ?_
    by_cases hb : (r.link i).bound
    · simpa [hb] using ⟨by simp [Link.closed_not_bound], rfl, rfl, rfl⟩
    · simpa [hb] using ⟨id, rfl, rfl, rfl⟩
  | pinReset => intro i j _ hi; simp [Link.reset, Link.bound] at hi

end Tables

/-! ### The law of ring contents (R70) -/

/-- The clauses of the law of ring contents that the tables decide: rings keep to their bounds, and a MARK-AT-END channel's
link has room for its mark. -/
structure Tables.RingLaw (r : Tables) : Prop where
  count : ∀ i, (r.link i).count ≤ (r.link i).capacity
  marks : ∀ i, (r.link i).marks ≤ Config.markLimit
  room : ∀ c i, (r.link i).holder = some c → (r.link i).dir = .output → (r.chan c).mode = true →
    (r.link i).marks < Config.markLimit

theorem State.ringLaw_iff (s : State) : s.RingLaw ↔ s.tables.RingLaw ∧ s.takeFits = true := by
  constructor
  · rintro ⟨bounds, take, room⟩
    exact ⟨⟨fun i => (bounds i).1, fun i => (bounds i).2, fun c => room c (by cases c <;> simp)⟩, take⟩
  · rintro ⟨⟨count, marks, room⟩, take⟩
    exact ⟨fun i => ⟨count i, marks i⟩, take, fun c _ => room c⟩

/-- A ring that holds no more than before, in bytes and in marks, and whose link has no new holder. -/
structure Link.RingKept (l l' : Link) : Prop where
  count : l.count ≤ l.capacity → l'.count ≤ l'.capacity
  marks : l'.marks ≤ l.marks
  holder : ∀ c, l'.holder = some c → l'.dir = .output → l.holder = some c ∧ l.dir = .output

theorem Link.RingKept.refl (l : Link) : l.RingKept l := ⟨id, le_rfl, fun _ h d => ⟨h, d⟩⟩

theorem Link.RingKept.trans {l m n : Link} (h : l.RingKept m) (g : m.RingKept n) : l.RingKept n where
  count hl := g.count (h.count hl)
  marks := g.marks.trans h.marks
  holder c hc hd := have ⟨hm, hd'⟩ := g.holder c hc hd; h.holder c hm hd'

/-- An empty ring that no channel holds. -/
theorem Link.RingKept.of_empty {l l' : Link} (hr : l'.ring = []) (hh : l'.holder = none) : l.RingKept l' where
  count := by simp [Link.count, hr]
  marks := by simp [Link.marks, hr]
  holder := by simp [hh]

theorem Link.release_ringKept (l : Link) (c : Chan) : l.RingKept (l.release c) := by
  unfold Link.release; split
  · exact ⟨id, le_rfl, by simp⟩
  · exact .refl l

theorem Link.busReset_ringKept (l : Link) : l.RingKept l.busReset := by
  unfold Link.busReset; split
  · refine ⟨id, le_rfl, fun c hc hd => ?_⟩
    simp_all
  · exact .refl l

theorem Link.append_marks (l : Link) (v : Byte) (m : Bool) : (l.append v m).marks = l.marks + bitVal m := by
  cases m <;> simp [Link.append, Link.marks, bitVal]

theorem Link.append_capacity (l : Link) (v : Byte) (m : Bool) : (l.append v m).capacity = l.capacity := rfl

theorem ringKept_update {f : LinkIndex → Link} {i : LinkIndex} {l : Link} (h : (f i).RingKept l) (k : LinkIndex) :
    (f k).RingKept (Function.update f i l k) := by
  by_cases hk : k = i
  · subst hk; simpa using h
  · simpa [hk] using Link.RingKept.refl (f k)

namespace Tables
variable {r t : Tables}

theorem Stops.ringKept {c : Chan} (h : Stops c r t) :
    (∀ i, (r.link i).RingKept (t.link i)) ∧ ∀ d, (t.chan d).mode = (r.chan d).mode := by
  have mode (x : Channel) (hx : x.mode = (r.chan c).mode) (d : Chan) :
      (Function.update r.chan c x d).mode = (r.chan d).mode := by
    by_cases hd : d = c
    · subst hd; simpa using hx
    · simp [hd]
  cases h with
  | idle => exact ⟨fun _ => .refl _, fun _ => rfl⟩
  | pending => exact ⟨fun _ => .refl _, mode _ rfl⟩
  | ended => exact ⟨ringKept_update (Link.release_ringKept _ c), mode _ rfl⟩

theorem StopAll.ringKept {cs : List Chan} (h : StopAll cs r t) :
    (∀ i, (r.link i).RingKept (t.link i)) ∧ ∀ d, (t.chan d).mode = (r.chan d).mode := by
  induction h with
  | nil => exact ⟨fun _ => .refl _, fun _ => rfl⟩
  | cons h _ ih => exact ⟨fun i => (h.ringKept.1 i).trans (ih.1 i), fun d => (ih.2 d).trans (h.ringKept.2 d)⟩

theorem RingLaw.of_kept (h : r.RingLaw) (hl : ∀ i, (r.link i).RingKept (t.link i))
    (hm : ∀ c i, (t.link i).holder = some c → (t.chan c).mode = (r.chan c).mode) : t.RingLaw where
  count i := (hl i).count (h.count i)
  marks i := (hl i).marks.trans (h.marks i)
  room c i hc hd hmode := by
    have ⟨hc', hd'⟩ := (hl i).holder c hc hd
    exact (hl i).marks.trans_lt (h.room c i hc' hd' (hm c i hc ▸ hmode))

/-- One link record is replaced, and keeps to its bounds. -/
theorem RingLaw.setLink (h : r.RingLaw) {i : LinkIndex} {l : Link} (count : l.count ≤ l.capacity)
    (marks : l.marks ≤ Config.markLimit)
    (room : ∀ c, l.holder = some c → l.dir = .output → (r.chan c).mode = true → l.marks < Config.markLimit) :
    (r.setLink i l).RingLaw := by
  constructor
  case room =>
    intro c k
    by_cases hk : k = i
    · subst hk; simpa using room c
    · simpa [hk] using h.room c k
  all_goals intro k; by_cases hk : k = i
  · subst hk; simpa using count
  · simpa [hk] using h.count k
  · subst hk; simpa using marks
  · simpa [hk] using h.marks k

theorem RingLaw.edit (h : r.RingLaw) {i : LinkIndex} {l : Link} (he : (r.link i).Edited l) : (r.setLink i l).RingLaw := by
  have capacity : l.capacity = (r.link i).capacity := by simp [Link.capacity, he.pages]
  refine h.setLink ?_ ?_ fun c hc hd hm => ?_
  · rw [capacity]
    exact he.count.elim (fun g => g.trans (h.count i)) (·.2)
  · exact he.marks.elim (fun g => g.trans (h.marks i)) (·.2.2)
  · rw [he.holder] at hc
    rw [he.dir] at hd
    exact (he.marks.resolve_right (by simp [hc])).trans_lt (h.room c i hc hd hm)

/-- The last byte of a MARK-AT-END run: its mark finds room, and the run releases the link (R73, R165, R167). -/
theorem RingLaw.lastByte (h : r.RingLaw) (c : Chan) (v : Byte) (x : Channel) (hx : (r.chan c).SameRun x)
    (mode : (r.chan c).mode = true) (dir : (r.link (r.chan c).link).dir = .output)
    (holder : (r.link (r.chan c).link).holder = some c) (space : 0 < (r.link (r.chan c).link).space) :
    (((r.setLink (r.chan c).link ((r.link (r.chan c).link).append v true)).setChan c x).endRun c).RingLaw := by
  have marks := h.room c _ holder dir mode
  have released : (r.setLink (r.chan c).link { (r.link (r.chan c).link).append v true with holder := none }).RingLaw := by
    refine h.setLink ?_ ?_ (by simp)
    · change ((r.link (r.chan c).link).append v true).count ≤ (r.link (r.chan c).link).capacity
      rw [Link.append_count]
      simp only [Link.space] at space
      omega
    · change ((r.link (r.chan c).link).append v true).marks ≤ _
      rw [Link.append_marks]
      simpa [bitVal] using marks
  refine released.of_kept (fun i => ?_) fun d i _ => ?_
  · rw [endRun_link]
    simp only [setChan_chan, Function.update_self, hx.link, setChan_link, setLink_link, Function.update_idem,
      Link.release, if_pos (show ((r.link (r.chan c).link).append v true).holder = some c from holder)]
    exact .refl _
  · by_cases hd : d = c
    · subst hd; simp [hx.mode]
    · simp [hd]

theorem Quiet.ringLaw (h : Quiet r t) (hr : r.RingLaw) (hb : ∀ c, r.Bound c) : t.RingLaw := by
  cases h with
  | edit i l h => exact hr.edit h
  | count c x h =>
    refine hr.of_kept (fun _ => .refl _) fun d i _ => ?_
    by_cases hd : d = c
    · subst hd; simp [h.mode]
    · simp [hd]
  | program c x idle =>
    refine hr.of_kept (fun _ => .refl _) fun d i hi => ?_
    by_cases hd : d = c
    · subst hd; exact absurd hi ((hb d).unheld_of_idle idle i)
    · simp [hd]
  | start c _ _ free room =>
    have hset : (r.setLink (r.chan c).link { r.link (r.chan c).link with holder := some c }).RingLaw := by
      refine hr.setLink (hr.count _) (hr.marks _) fun d hd => ?_
      obtain rfl : c = d := by simpa using hd
      exact room
    refine hset.of_kept (fun _ => .refl _) fun d i _ => ?_
    by_cases hd : d = c
    · subst hd; simp
    · simp [hd]
  | stop c h => exact hr.of_kept h.ringKept.1 fun d _ _ => h.ringKept.2 d
  | lastByte c v x h mode dir holder space => exact hr.lastByte c v x h mode dir holder space
  | lose cs _ h =>
    exact hr.of_kept (fun i => (Link.busReset_ringKept _).trans (h.ringKept.1 i)) fun d _ _ => h.ringKept.2 d

theorem Step.ringLaw {q : Prop} (h : Step True q r t) (hr : r.RingLaw) (hb : ∀ c, r.Bound c) : t.RingLaw := by
  cases h with
  | quiet h => exact h.ringLaw hr hb
  | take i v m room =>
    obtain ⟨dir, count, marks⟩ := room trivial
    refine hr.setLink ?_ ?_ fun _ _ hd => ?_
    · change ((r.link i).append v m).count ≤ (r.link i).capacity
      rw [Link.append_count]; omega
    · change ((r.link i).append v m).marks ≤ _
      rw [Link.append_marks]
      have : bitVal m ≤ 1 := by cases m <;> decide
      omega
    · exact absurd (hd.symm.trans dir) (by simp)
  | opened i => exact hr.setLink (hr.count i) (hr.marks i) fun c => hr.room c i
  | claim i st ch d n =>
    refine hr.of_kept (ringKept_update (.of_empty rfl rfl)) fun _ _ _ => rfl
  | close i h =>
    have hc : (r.close i).RingLaw := hr.of_kept (ringKept_update (.of_empty rfl rfl)) fun _ _ _ => rfl
    exact hc.of_kept h.ringKept.1 fun d _ _ => h.ringKept.2 d
  | shut i _ h =>
    have hc : (r.shut i).RingLaw := hr.of_kept (ringKept_update ⟨id, le_rfl, by simp⟩) fun _ _ _ => rfl
    exact hc.of_kept h.ringKept.1 fun d _ _ => h.ringKept.2 d
  | softReset =>
    refine hr.of_kept (fun i => ?_) fun _ _ _ => rfl
    by_cases hb : (r.link i).bound
    · simpa [hb] using .of_empty rfl rfl
    · simpa [hb] using ⟨id, le_rfl, by simp⟩
  | pinReset => exact hr.of_kept (fun i => .of_empty rfl rfl) fun c i hi => by simp [Link.reset] at hi

end Tables
end Sys2Proof.Machine

namespace Sys2Proof.Machine

/-! ### What the named updates do to the tables -/

section Tables
variable (s : State)

@[simp] theorem State.tables_setBus (x) : (s.setBus x).tables = s.tables := rfl
@[simp] theorem State.tables_setExchange (x) : (s.setExchange x).tables = s.tables := rfl
@[simp] theorem State.tables_setStations (x) : (s.setStations x).tables = s.tables := rfl
@[simp] theorem State.tables_setJobs (x) : (s.setJobs x).tables = s.tables := rfl
@[simp] theorem State.tables_setActive (x) : (s.setActive x).tables = s.tables := rfl
@[simp] theorem State.tables_setSeq (x) : (s.setSeq x).tables = s.tables := rfl
@[simp] theorem State.tables_setAttention (x) : (s.setAttention x).tables = s.tables := rfl
@[simp] theorem State.tables_setEvents (x) : (s.setEvents x).tables = s.tables := rfl
@[simp] theorem State.tables_setPort (x) : (s.setPort x).tables = s.tables := rfl
@[simp] theorem State.tables_setWindow (x) : (s.setWindow x).tables = s.tables := rfl
@[simp] theorem State.tables_setSettings (x) : (s.setSettings x).tables = s.tables := rfl
@[simp] theorem State.tables_setPins (x) : (s.setPins x).tables = s.tables := rfl
@[simp] theorem State.tables_setFreeTick (x) : (s.setFreeTick x).tables = s.tables := rfl
@[simp] theorem State.tables_setPending (x) : (s.setPending x).tables = s.tables := rfl
@[simp] theorem State.tables_taken : s.taken.tables = s.tables := rfl
@[simp] theorem State.tables_refuse (r) : (s.refuse r).tables = s.tables := rfl
@[simp] theorem State.tables_readBack (v) : (s.readBack v).tables = s.tables := rfl
@[simp] theorem State.tables_reserve (h) : (s.reserve h).tables = s.tables := rfl
@[simp] theorem State.tables_post (h e) : (s.post h e).tables = s.tables := rfl
@[simp] theorem State.tables_reportStation (i f) : (s.reportStation i f).tables = s.tables := rfl
@[simp] theorem State.tables_busToFree : s.busToFree.tables = s.tables := rfl
@[simp] theorem State.tables_beginExchange (e) : (s.beginExchange e).tables = s.tables := rfl
@[simp] theorem State.tables_mapActive (f) : (s.mapActive f).tables = s.tables := rfl
@[simp] theorem State.tables_beginVisit (x i) : (s.beginVisit x i).tables = s.tables := rfl

@[simp] theorem State.tables_postAmong (k h e) : (s.postAmong k h e).tables = s.tables := by
  unfold State.postAmong; split <;> rfl

@[simp] theorem State.tables_leaveQueue : s.leaveQueue.tables = s.tables := by
  unfold State.leaveQueue State.setQroomOnFall; split <;> rfl

@[simp] theorem State.tables_judgeLatch : s.judgeLatch.tables = s.tables := by
  unfold State.judgeLatch; split <;> rfl

@[simp] theorem State.tables_reportPace (i f) : (s.reportPace i f).tables = s.tables := by
  unfold State.reportPace; simp only; split <;> rfl

@[simp] theorem State.tables_failureReports (e o) : (s.failureReports e o).tables = s.tables := by
  unfold State.failureReports; split
  · simp
  · split <;> simp

@[simp] theorem State.tables_goodPhase (e) : (s.goodPhase e).tables = s.tables := by
  unfold State.goodPhase; split <;> rfl

@[simp] theorem State.tables_recordVisit (e o) : (s.recordVisit e o).tables = s.tables := by
  unfold State.recordVisit; split <;> split <;> rfl

@[simp] theorem State.tables_recordClaim (e v) : (s.recordClaim e v).tables = s.tables := by
  unfold State.recordClaim; split
  · split <;> rfl
  · rfl

@[simp] theorem State.tables_endScanClaimed (x i v r) : (s.endScanClaimed x i v r).tables = s.tables := by
  simp [State.endScanClaimed, State.leaveScan]

@[simp] theorem State.tables_endScanUnclaimed (x) : (s.endScanUnclaimed x).tables = s.tables := by
  simp [State.endScanUnclaimed, State.leaveScan]

@[simp] theorem State.tables_clearAttention : s.clearAttention.tables = s.tables := by simp [State.clearAttention]

@[simp] theorem State.tables_startScan : s.startScan.tables = s.tables := by
  unfold State.startScan; simp only; split <;> simp

@[simp] theorem State.tables_endVisit (o) : (s.endVisit o).tables = s.tables := by
  unfold State.endVisit; split
  · rfl
  · simp only; split
    · simp
    · split <;> simp

@[simp] theorem State.tables_nextVisit : s.nextVisit.tables = s.tables := by
  unfold State.nextVisit; split
  · rfl
  · split <;> simp

@[simp] theorem State.tables_cutForJob : s.cutForJob.tables = s.tables := by
  unfold State.cutForJob; split <;> rfl

@[simp] theorem State.tables_autoStep : s.autoStep.tables = s.tables := by
  unfold State.autoStep; split <;> rfl

@[simp] theorem State.tables_noPattern : s.noPattern.tables = s.tables := by
  unfold State.noPattern; split <;> rfl

@[simp] theorem State.tables_answerTenthBit : s.answerTenthBit.tables = s.tables := by
  unfold State.answerTenthBit; split <;> rfl

theorem State.tables_setLink (i : LinkIndex) (l : Link) : (s.setLink i l).tables = s.tables.setLink i l := by
  have h : (s.setLink i l).link = Function.update s.link i l := funext fun k => by
    by_cases hk : k = i
    · subst hk; simp
    · simp [hk, State.link_setLink_other]
  simp only [State.tables, h]; rfl

theorem State.tables_setChan (c : Chan) (x : Channel) : (s.setChan c x).tables = s.tables.setChan c x := by
  have h : (s.setChan c x).chan = Function.update s.chan c x := funext fun d => by cases c <;> cases d <;> rfl
  simp only [State.tables, h]; rfl

/-- A mover record with the same channels. -/
theorem State.tables_setMover (x : Mover) (h : ∀ c, x.chan c = s.chan c) : (s.setMover x).tables = s.tables := by
  have h' : (s.setMover x).chan = s.chan := funext h
  simp only [State.tables, h']; rfl

theorem State.tables_endRun (c : Chan) (r : StopReason) : (s.endRun c r).tables = s.tables.endRun c := by
  simp only [State.endRun, State.tables_post, State.tables_setChan, State.tables_setLink]; rfl

theorem State.tables_startRun (c : Chan) : (s.startRun c).tables = s.tables.startRun c := by
  simp only [State.startRun, State.tables_reserve, State.tables_setChan, State.tables_setLink]; rfl

theorem State.stopChannel_stops (c : Chan) (r : StopReason) : Tables.Stops c s.tables (s.stopChannel c r).tables := by
  rcases s.stopChannel_cases c r with ⟨hr, h⟩ | ⟨-, -, h⟩ | ⟨-, -, h⟩ <;> rw [h]
  · exact .idle hr
  · rw [State.tables_setChan]; exact .pending _
  · rw [← State.endRun_eq_afterRunEnd, State.tables_endRun]; exact .ended

/-- A link's channel is stopped, if it has one (R65, R67). -/
theorem State.stopAll_holder (h : Option Chan) (r : StopReason) {t : State}
    (ht : t = match h with
      | some c => s.stopChannel c r
      | none => s) : Tables.StopAll h.toList s.tables t.tables := by
  cases h with
  | none => subst ht; exact .nil _
  | some c => subst ht; exact .cons (s.stopChannel_stops c r) (.nil _)

end Tables

/-! ### What the agents of a ring do to its record -/

theorem Link.pushAllowed_iff (l : Link) (who : Option Chan) :
    l.pushAllowed who = true ↔ l.dir = .output ∧ (l.state = .opening ∨ l.state = .opened) ∧ l.holder = who := by
  simp [Link.pushAllowed, and_assoc]

theorem Link.dropOldest_edited (l : Link) (n : Nat) : l.Edited (l.dropOldest n) where
  state := rfl
  station := rfl
  channel := rfl
  dir := rfl
  pages := rfl
  holder := rfl
  count := .inl (by simp [Link.dropOldest_count])
  marks := .inl ((List.drop_sublist n l.ring).countP_le)

/-- An unmarked byte joins an OUT ring with room (R73). -/
theorem Link.append_edited (l : Link) (v : Byte) (dir : l.dir = .output) (space : 0 < l.space) :
    l.Edited (l.append v false) where
  state := rfl
  station := rfl
  channel := rfl
  dir := rfl
  pages := rfl
  holder := rfl
  count := .inr ⟨dir, by rw [Link.append_count]; simp only [Link.space] at space; omega⟩
  marks := .inl (by simp [Link.append_marks, bitVal])

/-- A record whose ring, pages and binding are as they were. -/
theorem Link.putInFlight_edited (l : Link) : l.Edited l.putInFlight :=
  ⟨rfl, rfl, rfl, rfl, rfl, rfl, .inl le_rfl, .inl le_rfl⟩

theorem Link.putBack_edited (l : Link) : l.Edited l.putBack :=
  ⟨rfl, rfl, rfl, rfl, rfl, rfl, .inl le_rfl, .inl le_rfl⟩

theorem Link.putRemove_edited (l : Link) : l.Edited l.putRemove :=
  have h := l.dropOldest_edited 1
  ⟨rfl, rfl, rfl, rfl, rfl, rfl, h.count, h.marks⟩

theorem markNewest_length (ring : List Cell) : (markNewest ring).length = ring.length := by
  induction ring using markNewest.induct <;> simp_all [markNewest]

theorem markNewest_marks (ring : List Cell) : (markNewest ring).countP (·.marked) ≤ ring.countP (·.marked) + 1 := by
  induction ring using markNewest.induct with
  | case1 => simp [markNewest]
  | case2 c => cases h : c.marked <;> simp [markNewest, h]
  | case3 c d rest ih => simp only [markNewest, List.countP_cons (l := markNewest _), List.countP_cons (a := c)]; omega

/-- What a mark claim answers (R74, R149). -/
theorem Link.mark_edited {l l' : Link} (h : l.mark = .placed l') : l.Edited l' := by
  unfold Link.mark at h
  split at h
  next allowed =>
    obtain ⟨dir, -, holder⟩ := (l.pushAllowed_iff none).mp allowed
    split at h
    · cases h
    · split at h
      · cases h
      · split at h <;> cases h
        next room =>
          refine ⟨rfl, rfl, rfl, rfl, rfl, rfl, .inl (markNewest_length _).le, .inr ⟨dir, holder, ?_⟩⟩
          have : l.ring.countP (·.marked) < Config.markLimit := not_le.mp room
          exact (markNewest_marks l.ring).trans this
  next => cases h

theorem Link.skip_edited {l l' : Link} (h : l.skip = some l') : l.Edited l' := by
  unfold Link.skip at h
  split at h <;> cases h
  exact l.dropOldest_edited _

/-! ### What leaves the sequencer alone -/

/-- A change that no job and no exchange takes part in: of the tables it may change what a quiet event can. -/
structure State.Calm (s t : State) : Prop where
  jobs : t.jobs = s.jobs
  active : t.active = s.active
  exchange : t.exchange = s.exchange
  tables : Relation.ReflTransGen Tables.Quiet s.tables t.tables

theorem State.Calm.of_tables {s t : State} (jobs : t.jobs = s.jobs) (active : t.active = s.active)
    (exchange : t.exchange = s.exchange) (tables : t.tables = s.tables) : s.Calm t :=
  ⟨jobs, active, exchange, tables ▸ .refl⟩

theorem State.Calm.of_quiet {s t : State} (jobs : t.jobs = s.jobs) (active : t.active = s.active)
    (exchange : t.exchange = s.exchange) (tables : Tables.Quiet s.tables t.tables) : s.Calm t :=
  ⟨jobs, active, exchange, .single tables⟩

theorem State.Calm.refl (s : State) : s.Calm s := .of_tables rfl rfl rfl rfl

theorem State.Calm.trans {s t u : State} (h : s.Calm t) (g : t.Calm u) : s.Calm u :=
  ⟨g.jobs.trans h.jobs, g.active.trans h.active, g.exchange.trans h.exchange, h.tables.trans g.tables⟩

theorem State.Calm.kept {s t : State} (h : s.Calm t) (i : LinkIndex) : (s.link i).Kept (t.link i) := by
  obtain ⟨-, -, -, h⟩ := h
  suffices ∀ r u : Tables, Relation.ReflTransGen Tables.Quiet r u → (r.link i).Kept (u.link i) from this _ _ h
  intro r u h
  induction h with
  | refl => exact .refl _
  | tail _ h ih => exact ih.trans (h.kept i).1

section Calm
variable (s : State)

theorem State.setLink_calm {i : LinkIndex} {l : Link} (h : (s.link i).Edited l) : s.Calm (s.setLink i l) :=
  .of_quiet rfl rfl rfl (s.tables_setLink i l ▸ .edit i l h)

theorem State.setChan_calm {c : Chan} {x : Channel} (h : (s.chan c).SameRun x) : s.Calm (s.setChan c x) :=
  .of_quiet rfl rfl rfl (s.tables_setChan c x ▸ .count c x h)

theorem State.stopChannel_calm (c : Chan) (r : StopReason) : s.Calm (s.stopChannel c r) := by
  have hx : (s.stopChannel c r).active = s.active := by
    unfold State.stopChannel; simp only; split
    · split <;> rfl
    · rfl
  have hv := s.busView_stopChannel c r
  exact .of_quiet (congrArg BusView.jobs hv) hx (congrArg BusView.exchange hv) (.stop c (s.stopChannel_stops c r))

theorem State.endRun_calm (c : Chan) (r : StopReason) : s.Calm (s.endRun c r) :=
  .of_quiet rfl rfl rfl (s.tables_endRun c r ▸ .stop c .ended)

theorem State.mapJobLink_calm {f : Link → Link} (h : ∀ l : Link, l.Edited (f l)) : s.Calm (s.mapJobLink f) := by
  unfold State.mapJobLink; split
  · exact s.setLink_calm (h _)
  · exact .refl s

theorem State.putBackByte_calm (e : Exchange) : s.Calm (s.putBackByte e) := by
  unfold State.putBackByte; split
  · exact s.mapJobLink_calm Link.putBack_edited
  · exact .refl s

theorem State.startMove_calm (c : Chan) : s.Calm (s.startMove c) := by
  have still (t : State) (x : Option Move) :
      t.Calm (t.setMover { t.mover with lastServed := c, move := x }) :=
    .of_tables rfl rfl rfl (t.tables_setMover _ fun d => by cases d <;> rfl)
  unfold State.startMove; simp only; split
  · exact still s _
  · rcases (s.link (s.chan c).link).pop_cases (some c) with ⟨cell, rest, -, -, h⟩ | ⟨-, -, h⟩ | ⟨-, h⟩ <;> rw [h]
    · exact (s.setLink_calm (Link.dropOldest_edited _ 1)).trans (still (s.setLink _ _) _)
    all_goals exact still s _

theorem State.nextMove_calm : s.Calm s.nextMove := by
  unfold State.nextMove; split
  · split
    · exact s.startMove_calm _
    · exact .refl s
  · exact .refl s

theorem Channel.counted_sameRun (x : Channel) : x.SameRun x.counted := ⟨rfl, rfl, rfl, rfl⟩

/-- A channel whose last byte is counted ends its run (R165). -/
theorem Channel.completionEnd_isSome (x : Channel) (marked : Bool) (h : x.count = 0) :
    ∃ r, x.completionEnd true marked = some r := by
  unfold Channel.completionEnd Channel.naturalEnd
  split
  · exact ⟨_, rfl⟩
  · simp only [Bool.not_true, Bool.false_eq_true, if_false, h, if_true]
    split
    · exact ⟨_, rfl⟩
    · exact ⟨_, rfl⟩

/-- What is left of a byte move once its claim is answered: it is counted, and its run may end (R160, R165). -/
def State.afterClaim (s : State) (m : Move) (f : State × Bool × Bool) : State :=
  let ch := if f.2.1 then (s.chan m.chan).counted else s.chan m.chan
  let s2 := f.1.setChan m.chan ch
  let s3 := s2.setMover { s2.mover with move := none }
  match ch.completionEnd f.2.1 f.2.2 with
  | some r => s3.endRun m.chan r
  | none => s3

theorem State.completeMove_eq (m : Move) (v : Byte) :
    s.completeMove m v = (s.afterClaim m (s.finishMove m v)).nextMove := rfl

/-- A byte move whose claim leaves its channel alone is counted and may end its run. -/
theorem State.afterClaim_calm (m : Move) (t : State) (taken marked : Bool) (ht : s.Calm t)
    (hc : t.chan = s.chan) : s.Calm (s.afterClaim m (t, taken, marked)) := by
  have hx : (t.chan m.chan).SameRun (if taken then (s.chan m.chan).counted else s.chan m.chan) := by
    rw [hc]; split
    · exact Channel.counted_sameRun _
    · exact ⟨rfl, rfl, rfl, rfl⟩
  have rest (u : State) : u.Calm (u.setMover { u.mover with move := none }) :=
    .of_tables rfl rfl rfl (u.tables_setMover _ fun d => by cases d <;> rfl)
  refine ht.trans ?_
  unfold State.afterClaim; simp only; split
  · exact ((t.setChan_calm hx).trans (rest _)).trans (State.endRun_calm _ _ _)
  · exact (t.setChan_calm hx).trans (rest _)

/-- The last byte of a MARK-AT-END run is appended with its mark, and the run ends (R73, R165). -/
theorem State.afterClaim_lastByte_calm (m : Move) (v : Byte) (mode : (s.chan m.chan).mode = true)
    (count : (s.chan m.chan).count = 1)
    (allowed : (s.link (s.chan m.chan).link).pushAllowed (some m.chan) = true)
    (space : 0 < (s.link (s.chan m.chan).link).space) :
    s.Calm (s.afterClaim m
      (s.setLink (s.chan m.chan).link ((s.link (s.chan m.chan).link).append v true), true, false)) := by
  obtain ⟨dir, -, holder⟩ := (Link.pushAllowed_iff _ _).mp allowed
  obtain ⟨r, hr⟩ := (s.chan m.chan).counted.completionEnd_isSome false (by simp [Channel.counted, count])
  simp only [State.afterClaim, if_true, hr]
  refine .of_quiet rfl rfl rfl ?_
  rw [State.tables_endRun, State.tables_setMover _ _ fun d => by cases d <;> rfl, State.tables_setChan,
    State.tables_setLink]
  exact .lastByte m.chan v _ (Channel.counted_sameRun _) mode dir holder space

theorem State.completeMove_calm (m : Move) (v : Byte) : s.Calm (s.completeMove m v) := by
  rw [State.completeMove_eq]
  refine State.Calm.trans ?_ (State.nextMove_calm _)
  unfold State.finishMove; simp only; split
  · split
    · exact s.afterClaim_calm m _ _ _ (.of_tables rfl rfl rfl rfl) rfl
    · exact s.afterClaim_calm m s _ _ (.refl s) rfl
  · rcases (s.link (s.chan m.chan).link).push_cases (some m.chan) v ((s.chan m.chan).mode && (s.chan m.chan).count == 1)
      with ⟨allowed, space, h⟩ | ⟨-, -, h⟩ | ⟨-, h⟩ <;> rw [h]
    · cases hm : (s.chan m.chan).mode && (s.chan m.chan).count == 1
      · obtain ⟨dir, -⟩ := (Link.pushAllowed_iff _ _).mp allowed
        exact s.afterClaim_calm m _ _ _ (s.setLink_calm (Link.append_edited _ v dir space)) rfl
      · simp only [Bool.and_eq_true, beq_iff_eq] at hm
        exact s.afterClaim_lastByte_calm m v hm.1 hm.2 allowed space
    all_goals exact s.afterClaim_calm m s _ _ (.refl s) rfl

theorem State.moveCompletion_calm (v : Byte) : s.Calm (s.moveCompletion v) := by
  unfold State.moveCompletion; split
  · exact s.completeMove_calm _ v
  · exact .refl s

theorem State.portRead_calm : s.Calm s.portRead := by
  rcases (s.link s.port.link).pop_cases none with ⟨c, rest, -, -, h⟩ | ⟨-, -, h⟩ | ⟨-, h⟩ <;>
    simp only [State.portRead, h]
  · exact (s.setLink_calm (Link.dropOldest_edited _ 1)).trans (.of_tables rfl rfl rfl rfl)
  all_goals exact .of_tables rfl rfl rfl rfl

theorem State.portWrite_calm (v : Byte) : s.Calm (s.portWrite v) := by
  rcases (s.link s.port.link).push_cases none v false with ⟨allowed, space, h⟩ | ⟨-, -, h⟩ | ⟨-, h⟩ <;>
    simp only [State.portWrite, h]
  · exact s.setLink_calm (Link.append_edited _ v ((Link.pushAllowed_iff _ _).mp allowed).1 space)
  all_goals exact .of_tables rfl rfl rfl rfl

theorem State.portMark_calm : s.Calm s.portMark := by
  unfold State.portMark; split
  next h => exact (s.setLink_calm (Link.mark_edited h)).trans (.of_tables rfl rfl rfl rfl)
  next => exact .of_tables rfl rfl rfl rfl

theorem State.portSkip_calm : s.Calm s.portSkip := by
  unfold State.portSkip; split
  next h => exact (s.setLink_calm (Link.skip_edited h)).trans (.of_tables rfl rfl rfl rfl)
  next => exact .of_tables rfl rfl rfl rfl

theorem Link.startable_state {l : Link} (h : l.startable = true) : l.state ≠ .closed := by
  intro hs
  cases hd : l.dir <;> simp [Link.startable, hd, hs] at h

/-- What a MOVER-START that is taken has checked (R157). -/
theorem State.startRefusal_none {c : Chan} (h : s.startRefusal c = none) :
    (s.chan c).running = false ∧ (s.link (s.chan c).link).startable = true ∧ (s.link (s.chan c).link).holder = none ∧
      ((s.link (s.chan c).link).dir = .output → (s.chan c).mode = true →
        (s.link (s.chan c).link).marks < Config.markLimit) := by
  unfold State.startRefusal at h
  simp only at h
  repeat' (split at h; · simp at h)
  simp_all

theorem State.moverStart_calm (c : Chan) : s.Calm (s.moverStart c) := by
  unfold State.moverStart; split
  · exact .of_tables rfl rfl rfl rfl
  next h =>
    obtain ⟨idle, startable, free, room⟩ := s.startRefusal_none h
    have hq := Tables.Quiet.start (r := s.tables) c idle (Link.startable_state startable) free room
    have hs : s.Calm (s.startRun c) := .of_quiet rfl rfl rfl (s.tables_startRun c ▸ hq)
    exact (hs.trans (State.nextMove_calm _)).trans (.of_tables rfl rfl rfl rfl)

theorem State.moverStop_calm (c : Chan) : s.Calm (s.moverStop c) := by
  unfold State.moverStop; split
  · exact (s.stopChannel_calm c _).trans (.of_tables rfl rfl rfl rfl)
  · exact .of_tables rfl rfl rfl rfl

theorem State.readEffect_calm (r : Reg) : s.Calm (s.readEffect r) := by
  unfold State.readEffect; split
  case h_4 | h_5 => exact s.setChan_calm ⟨rfl, rfl, rfl, rfl⟩
  all_goals exact .of_tables rfl rfl rfl rfl

theorem State.autoStep_calm : s.Calm s.autoStep := by
  unfold State.autoStep; split
  · exact .of_tables rfl rfl rfl rfl
  · exact .refl s

theorem State.dataRead_calm : s.Calm s.dataRead := by
  unfold State.dataRead; simp only; split
  · exact .trans (t := s.readBack 0) (.of_tables rfl rfl rfl rfl) (State.autoStep_calm _)
  next r _ =>
    exact (s.readEffect_calm r).trans
      (.trans (t := (s.readEffect r).readBack (s.readReg r)) (.of_tables rfl rfl rfl rfl) (State.autoStep_calm _))

theorem State.writeMoverReg_calm {t : State} {c : Chan} {r : MoverReg} {v : Byte} (h : s.writeMoverReg c r v = .stored t) :
    s.Calm t := by
  have program (x : Channel) (idle : (s.chan c).running = false) (idle' : x.running = false) : s.Calm (s.setChan c x) :=
    .of_quiet rfl rfl rfl (s.tables_setChan c x ▸ .program c x idle idle')
  unfold State.writeMoverReg at h
  simp only at h
  split at h
  · cases h
  · split at h
    · cases h
    next idle =>
      have idle : (s.chan c).running = false := by simpa using idle
      split at h
      · split at h <;> cases h
        exact program _ idle idle
      case h_7 => cases h
      all_goals cases h; exact program _ idle idle

theorem State.tables_busReset : (s.setLinks (mapTable Link.busReset s.links)).tables = s.tables.busReset := by
  have h : (s.setLinks (mapTable Link.busReset s.links)).link = fun i => (s.link i).busReset :=
    funext fun i => mapTable_getElem _ _ _ _
  simp only [State.tables, h]; rfl

theorem State.loseLinks_calm : s.Calm s.loseLinks := by
  have lose (cs : List Chan) (t : State) (mem : ∀ c, c ∈ cs ↔ s.losesLink c = true)
      (h : Tables.StopAll cs s.tables.busReset t.tables) : Tables.Quiet s.tables t.tables :=
    .lose cs (fun c => (mem c).trans State.losesLink_iff) h
  have stop (c : Chan) (u : State) : Tables.Stops c u.tables (u.stopChannel c .lost).tables := u.stopChannel_stops c .lost
  have first : (s.setLinks (mapTable Link.busReset s.links)).Calm s.loseLinks ∧
      Tables.Quiet s.tables s.loseLinks.tables := by
    unfold State.loseLinks; simp only
    cases ha : s.losesLink .a <;> cases hb : s.losesLink .b <;> simp only
    · exact ⟨.refl _, lose [] _ (by rintro (_ | _) <;> simp [ha, hb]) (s.tables_busReset ▸ .nil _)⟩
    · exact ⟨State.stopChannel_calm _ .b .lost, lose [.b] _ (by rintro (_ | _) <;> simp [ha, hb])
        (s.tables_busReset ▸ .cons (stop .b _) (.nil _))⟩
    · exact ⟨State.stopChannel_calm _ .a .lost, lose [.a] _ (by rintro (_ | _) <;> simp [ha, hb])
        (s.tables_busReset ▸ .cons (stop .a _) (.nil _))⟩
    · let u := (s.setLinks (mapTable Link.busReset s.links)).setFreeTick (s.freeTick + 1)
      have tick : (s.setLinks (mapTable Link.busReset s.links)).Calm
          ((s.setLinks (mapTable Link.busReset s.links)).setFreeTick (s.freeTick + 1)) := .of_tables rfl rfl rfl rfl
      split
      · exact ⟨(tick.trans (State.stopChannel_calm _ .a .lost)).trans (State.stopChannel_calm _ .b .lost),
          lose [.a, .b] _ (by rintro (_ | _) <;> simp [ha, hb])
            (s.tables_busReset ▸ .cons (stop .a u) (.cons (stop .b (u.stopChannel .a .lost)) (.nil _)))⟩
      · exact ⟨(tick.trans (State.stopChannel_calm _ .b .lost)).trans (State.stopChannel_calm _ .a .lost),
          lose [.b, .a] _ (by rintro (_ | _) <;> simp [ha, hb])
            (s.tables_busReset ▸ .cons (stop .b u) (.cons (stop .a (u.stopChannel .b .lost)) (.nil _)))⟩
  exact .of_quiet first.1.jobs first.1.active first.1.exchange first.2

theorem State.judgeLatch_calm : s.Calm s.judgeLatch := by
  unfold State.judgeLatch; split
  · exact .of_tables rfl rfl rfl rfl
  · exact .refl s

theorem State.clearAttention_calm : s.Calm s.clearAttention :=
  .trans (t := s.setAttention { s.attention with latch := false, mask := false }) (.of_tables rfl rfl rfl rfl)
    (State.judgeLatch_calm _)

theorem State.resetByPulse_calm : s.Calm s.resetByPulse :=
  .trans (t := s.setStations (Vector.replicate Config.stationCount Station.reset)) (.of_tables rfl rfl rfl rfl)
    ((State.loseLinks_calm _).trans (State.clearAttention_calm _))

end Calm
end Sys2Proof.Machine

namespace Sys2Proof.Machine

/-! ### What every event can do to the tables -/

/-- The tables of `t` come from those of `s` by steps. -/
def State.Reaches (p q : Prop) (s t : State) : Prop := Relation.ReflTransGen (Tables.Step p q) s.tables t.tables

/-- Where a law asks for it: a TAKE's data frame that may come finds an IN ring with room for its byte and its mark. -/
def State.TakeRoom (p : Prop) (s : State) : Prop :=
  p → ∀ e j x, s.bus.activity = .receiving → s.exchange = some e → e.kind = .take → s.activeJob = some (j, x) →
    (s.link j.linkIndex).dir = .input ∧ (s.link j.linkIndex).count < (s.link j.linkIndex).capacity ∧
      (s.link j.linkIndex).marks < Config.markLimit

/-- Where a law asks for it: the link of an Active OPEN job is not Closed. -/
def State.OpenBound (q : Prop) (s : State) : Prop :=
  q → ∀ j x, s.activeJob = some (j, x) → j.kind = .openLink → (s.link j.linkIndex).bound = true

section Reaches
variable {p q : Prop} {s t u : State}

theorem State.Reaches.of_tables (h : t.tables = s.tables) : State.Reaches p q s t := by
  unfold State.Reaches; rw [h]

theorem State.Reaches.of_step (h : Tables.Step p q s.tables t.tables) : State.Reaches p q s t := .single h

theorem State.Reaches.trans (h : State.Reaches p q s t) (g : State.Reaches p q t u) : State.Reaches p q s u :=
  Relation.ReflTransGen.trans h g

/-- What an operation reaches, it reaches from any state with the tables it starts from. -/
theorem State.Reaches.after (h : State.Reaches p q t u) (ht : t.tables = s.tables) : State.Reaches p q s u :=
  (State.Reaches.of_tables ht).trans h

theorem State.Calm.reaches (h : s.Calm t) : State.Reaches p q s t := h.tables.lift id fun _ _ h => .quiet h

theorem State.OpenBound.of_same (h : s.OpenBound q) (jobs : t.jobs = s.jobs)
    (active : t.active = none ∨ s.active.isSome = true)
    (bound : ∀ i, (s.link i).bound = true → (t.link i).bound = true) : t.OpenBound q := by
  intro hq j x hact hk
  unfold State.activeJob at hact
  rcases active with hn | ha
  · rw [hn] at hact; split at hact <;> simp_all
  · obtain ⟨y, hy⟩ := Option.isSome_iff_exists.mp ha
    rw [jobs] at hact
    split at hact
    next j' rest x' hjobs _ =>
      obtain ⟨rfl, -⟩ : j' = j ∧ x' = x := by simpa using hact
      exact bound _ (h hq j' y (by simp [State.activeJob, hjobs, hy]) hk)
    next => cases hact

theorem Link.Kept.bound {l l' : Link} (h : l.Kept l') (hb : l.bound = true) : l'.bound = true := by
  rcases h.state with hs | ⟨-, hs⟩ <;> simp_all [Link.bound]

theorem State.OpenBound.of_calm (h : s.OpenBound q) (hc : s.Calm t) : t.OpenBound q := by
  refine fun hq j x hact hk => (hc.kept _).bound (h hq j x ?_ hk)
  unfold State.activeJob at hact ⊢
  rwa [← hc.jobs, ← hc.active]

/-! ### Jobs -/

theorem State.closeLink_reaches (s : State) (i : LinkIndex) (r : StopReason) :
    State.Reaches p q s (s.closeLink i r) := by
  have htab : ((s.setLink i (s.link i).closed).returnPages (s.link i).pages).tables = s.tables.close i := by
    simp only [State.returnPages, State.tables, State.setFreePages]
    exact congrArg (fun f => Tables.mk f _ _) (congrArg Tables.link (s.tables_setLink i _))
  exact .of_step (.close i (htab ▸ State.stopAll_holder _ (s.link i).holder r rfl))

theorem State.shutOpenLink_reaches (s : State) (i : LinkIndex) (h : (s.link i).state = .opened) :
    State.Reaches p q s (s.shutOpenLink i) := by
  have htab : (s.setLink i { s.link i with state := .shutting, holder := none }).tables = s.tables.shut i :=
    s.tables_setLink i _
  exact .of_step (.shut i h (htab ▸ State.stopAll_holder _ (s.link i).holder .shut rfl))

theorem State.cleanUp_reaches (s : State) (i : LinkIndex) (c : Cleanup)
    (h : c = .opened → q → (s.link i).bound = true) : State.Reaches p q s (s.cleanUp i c).1 := by
  cases c with
  | keep => exact .of_tables rfl
  | opened => exact .of_step (s.tables_setLink i _ ▸ .opened i (h rfl))
  | close r => exact s.closeLink_reaches i r

theorem State.endJobSince_reaches (s : State) (n : Nat) (r : JobResult) (c : Cleanup)
    (h : c = .opened → q → ∀ j x, s.activeJob = some (j, x) → (s.link j.linkIndex).bound = true) :
    State.Reaches p q s (s.endJobSince n r c) := by
  unfold State.endJobSince; split
  · exact .of_tables rfl
  next j x hact =>
    exact (s.cleanUp_reaches j.linkIndex c fun hc hq => h hc hq j x hact).trans (.of_tables (by simp))

/-- A job that ends with no "opened" notice. -/
theorem State.endJob_reaches (s : State) (r : JobResult) {c : Cleanup} (h : c ≠ .opened) :
    State.Reaches p q s (s.endJob r c) :=
  s.endJobSince_reaches _ r c fun hc => absurd hc h

theorem JobKind.cleanup_false_ne (k : JobKind) : k.cleanup false ≠ .opened := by cases k <;> simp [JobKind.cleanup]

/-- Only an OPEN job gives the "opened" notice (R64). -/
theorem JobKind.cleanup_opened {k : JobKind} {o : Bool} (h : k.cleanup o = .opened) : k = .openLink := by
  cases k <;> simp [JobKind.cleanup] at h ⊢

theorem State.startExchange_reaches (s : State) (later : Bool) : State.Reaches p q s (s.startExchange later) := by
  rcases s.startExchange_cases later with ⟨r, h⟩ | ⟨e, -, h⟩ | h <;> rw [h]
  · exact s.endJob_reaches r (by simp)
  all_goals exact .of_tables rfl

/-- An open claim that passes found its link Closed and its endpoint free, and lends the lowest free pages (R60, R63). -/
theorem State.openClaim_passed {i : LinkIndex} {st : StationIndex} {ch : BitVec 3} {d : Dir} {n : Nat}
    (h : s.openClaim i st ch d n = .ok t) :
    (s.link i).state = .closed ∧ (∀ j, j ≠ i → (s.link j).binds st ch d = false) ∧ n ≤ s.freePages.length ∧
      t = (s.setLink i ((s.link i).openWith st ch d (s.freePages.take n))).setFreePages (s.freePages.drop n) := by
  have mem (i : LinkIndex) : i ∈ allLinks := by revert i; decide
  unfold State.openClaim at h
  split at h
  · cases h
  next hb =>
    split at h
    · cases h
    next he =>
      split at h <;> cases h
      next hn =>
        refine ⟨by simpa [Link.bound] using hb, fun j hj => ?_, by omega, rfl⟩
        simp only [State.endpointFree, Bool.not_eq_true', Bool.not_eq_false, List.all_eq_true] at he
        simpa [hj] using he j (mem j)

theorem State.startOpen_reaches (s : State) (j : Job) : State.Reaches p q s (s.startOpen j) := by
  unfold State.startOpen; split
  · exact s.endJob_reaches _ (by simp)
  next t ht =>
    obtain ⟨closed, endpoint, -, rfl⟩ := State.openClaim_passed ht
    refine State.Reaches.trans (.of_step ?_) (State.startExchange_reaches _ _)
    have htab := s.tables_setLink j.linkIndex
      ((s.link j.linkIndex).openWith j.stationIndex j.channel j.dir (s.freePages.take j.pages.toNat))
    have hstep := Tables.Step.claim (rooms := p) (opens := q) (r := s.tables) j.linkIndex j.stationIndex j.channel j.dir
      j.pages.toNat closed endpoint
    rw [State.tables_link, State.tables_free, ← htab] at hstep
    exact hstep

theorem State.startShut_reaches (s : State) (j : Job) : State.Reaches p q s (s.startShut j) := by
  unfold State.startShut; split
  next h => exact (s.shutOpenLink_reaches j.linkIndex h).trans (State.startExchange_reaches _ _)
  · exact (State.endJob_reaches _ _ (by simp)).after rfl
  · exact s.endJob_reaches _ (by simp)

theorem State.startJob_reaches (s : State) : State.Reaches p q s s.startJob := by
  unfold State.startJob; split
  · exact .of_tables rfl
  · simp only; split
    · exact (State.startOpen_reaches _ _).after rfl
    · exact (State.startShut_reaches _ _).after rfl
    · exact .of_tables rfl
    · exact (State.startExchange_reaches _ false).after rfl

theorem State.carryOut_reaches (s : State) (w : Start) : State.Reaches p q s (s.carryOut w) := by
  cases w
  · exact .of_tables s.tables_startScan
  · exact s.startJob_reaches

theorem State.arbitrate_reaches (fuel : Nat) (s : State) : State.Reaches p q s (State.arbitrate fuel s) := by
  induction fuel generalizing s with
  | zero => exact .of_tables rfl
  | succ fuel ih =>
    unfold State.arbitrate; split
    · split
      · exact .of_tables rfl
      · split
        · exact .of_tables rfl
        · exact ((State.carryOut_reaches (s.setSeq { s.seq with stall := false }) _).trans (ih _)).after rfl
    · exact .of_tables rfl

theorem State.decide_reaches (s : State) : State.Reaches p q s s.decide := State.arbitrate_reaches _ s

theorem State.settle_reaches (s t : State) : State.Reaches p q t (State.settle s t) := by
  unfold State.settle; split
  · exact .of_tables rfl
  · exact t.decide_reaches

theorem State.busyOutcome_reaches (s : State) (j : Job) (x : JobContext) : State.Reaches p q s (s.busyOutcome j x) := by
  unfold State.busyOutcome; simp only; split
  · exact (State.endJob_reaches _ _ (JobKind.cleanup_false_ne _)).after rfl
  · split
    · exact (State.startExchange_reaches _ _).after rfl
    · exact .of_tables rfl

theorem State.endCensusVisit_reaches (s : State) (e : Exchange) (o : ExchangeOutcome) (x : JobContext) :
    State.Reaches p q s (s.endCensusVisit e o x) := by
  have hv : State.Reaches p q s (s.recordVisit e o) := .of_tables (by simp)
  unfold State.endCensusVisit; simp only; split
  · exact hv.trans (State.endJob_reaches _ _ (by simp))
  · exact hv.trans (.of_tables rfl)

/-- An exchange's outcome reaches its job (R94): an OPEN job alone may give the "opened" notice. -/
theorem State.jobOutcome_reaches (h : s.OpenBound q) (e : Exchange) (o : ExchangeOutcome) :
    State.Reaches p q s (s.jobOutcome e o) := by
  unfold State.jobOutcome; split
  · exact .of_tables rfl
  next j x hact =>
    have bound (c : Bool) (r : JobResult) (y : JobContext) :
        State.Reaches p q s ((s.setActive (some y)).endJob r (j.kind.cleanup c)) := by
      refine (State.Reaches.of_tables rfl).trans (State.endJobSince_reaches (s.setActive (some y)) _ r _ ?_)
      intro hc hq j' x' hact'
      have hj : j' = j := by
        unfold State.activeJob at hact hact'
        cases hjobs : s.jobs with
        | nil => simp [hjobs] at hact
        | cons k rest => cases hx : s.active <;> simp_all [State.setActive]
      subst hj
      exact h hq j' x hact (JobKind.cleanup_opened hc)
    simp only; split
    · exact (State.endCensusVisit_reaches _ e o _).after rfl
    · split
      · exact (State.busyOutcome_reaches _ j _).after rfl
      · exact bound false _ _
      · split
        · unfold State.dataComplete; split
          · exact (State.endJob_reaches _ _ (c := .keep) (by simp)).after rfl
          · exact .of_tables rfl
        · exact bound _ _ _
      · exact bound _ _ _

/-! ### Exchanges -/

theorem State.endExchange_reaches (h : s.OpenBound q) (e : Exchange) (o : ExchangeOutcome) :
    State.Reaches p q s (s.endExchange e o) := by
  unfold State.endExchange; simp only; split
  · exact .of_tables (by simp)
  · exact State.jobOutcome_reaches (s := (s.setExchange none).busToFree) h e o
  · exact .of_tables rfl

theorem State.endCut_reaches (h : s.OpenBound q) (e : Exchange) : State.Reaches p q s (s.endCut e) := by
  unfold State.endCut; simp only; split
  · exact .of_tables (by simp)
  · exact State.jobOutcome_reaches (s := (s.setExchange none).busToFree) h e _
  · split
    · exact .of_tables rfl
    · split
      · exact (State.Reaches.of_tables (by simp)).trans (State.endJob_reaches (State.recordVisit _ e _) _ (by simp))
      · exact State.jobOutcome_reaches (s := (s.setExchange none).busToFree) h e _
  · exact .of_tables rfl

theorem State.failExchange_reaches (s : State) (e : Exchange) (o : ExchangeOutcome) :
    State.Reaches p q s (s.failExchange e o) := by
  have hr : State.Reaches p q s (s.failureReports e o) := .of_tables (by simp)
  refine (hr.trans (State.putBackByte_calm _ e).reaches).trans (.of_tables ?_)
  simp only [State.failExchange, State.tables_cutForJob]; rfl

theorem State.cutExchange_reaches (s : State) (e : Exchange) : State.Reaches p q s (s.cutExchange e) :=
  (s.putBackByte_calm e).reaches.trans (.of_tables rfl)

theorem State.sendPutByte_reaches (s : State) (e : Exchange) : State.Reaches p q s (s.sendPutByte e) := by
  unfold State.sendPutByte; split
  · exact .of_tables rfl
  · split
    · exact .of_tables rfl
    · exact (s.mapJobLink_calm Link.putInFlight_edited).reaches.trans (.of_tables rfl)

theorem State.takeHandback_reaches (h : s.OpenBound q) (e : Exchange) : State.Reaches p q s (s.takeHandback e) := by
  unfold State.takeHandback; split
  · exact .of_tables rfl
  · split
    · exact State.endExchange_reaches h e _
    · split
      · exact s.sendPutByte_reaches e
      · split
        · exact State.endExchange_reaches h e _
        · exact .of_tables rfl
      · exact State.endExchange_reaches h e _

theorem State.takeAnswer_reaches (s : State) (e : Exchange) (a : Answer) : State.Reaches p q s (s.takeAnswer e a) := by
  unfold State.takeAnswer; simp only; split
  · exact State.failExchange_reaches (s.reportStation _ _) _ _
  · split
    · exact .of_tables rfl
    · split <;> exact .of_tables rfl

/-- A TAKE's data frame is appended to the link of its job (R32, R76). -/
theorem State.takeData_reaches (e : Exchange) (v : Byte) (m : Bool)
    (h : p → ∀ j x, s.activeJob = some (j, x) → (s.link j.linkIndex).dir = .input ∧
      (s.link j.linkIndex).count < (s.link j.linkIndex).capacity ∧ (s.link j.linkIndex).marks < Config.markLimit) :
    State.Reaches p q s (s.takeData e v m) := by
  have happend : State.Reaches p q s (s.mapJobLink fun l => l.takeAppend v m) := by
    unfold State.mapJobLink; split
    next j x hact => exact .of_step (s.tables_setLink _ _ ▸ .take j.linkIndex v m fun hp => h hp j x hact)
    next => exact .of_tables rfl
  unfold State.takeData; simp only; split
  · exact happend.trans (.of_tables (State.tables_goodPhase _ _))
  · exact happend.trans (.of_tables rfl)

theorem State.takeFrame_reaches (he : s.exchange = some e) (hb : s.bus.activity = .receiving) (h : s.TakeRoom p)
    (v : Byte) (m : Bool) : State.Reaches p q s (s.takeFrame e v m) := by
  unfold State.takeFrame; split
  · refine .of_tables ?_
    unfold State.takeStatus State.enterHandback
    exact State.tables_recordClaim _ _ _
  next hk =>
    exact (State.takeData_reaches e v m fun hp j x hact => h hp e j x hb he hk hact).trans (State.nextMove_calm _).reaches
  · exact .of_tables rfl

theorem State.putByteSent_reaches (h : s.OpenBound q) (e : Exchange) (m : Bool) :
    State.Reaches p q s (s.putByteSent e m) := by
  have hc := s.mapJobLink_calm Link.putRemove_edited
  have hb : ((s.mapJobLink Link.putRemove).mapActive fun x => { x with msgEnd := x.msgEnd || m }).OpenBound q := by
    refine (h.of_calm hc).of_same rfl ?_ fun _ h => h
    cases hx : (s.mapJobLink Link.putRemove).active <;> simp [State.mapActive, hx]
  have hr : State.Reaches p q s ((s.mapJobLink Link.putRemove).mapActive fun x => { x with msgEnd := x.msgEnd || m }) :=
    hc.reaches
  unfold State.putByteSent; simp only; split
  · refine hr.trans (.trans (.of_tables (State.tables_goodPhase _ _)) (State.endExchange_reaches (hb.of_calm ?_) _ _))
    unfold State.goodPhase; split <;> exact .of_tables rfl rfl rfl rfl
  · exact hr.trans (State.sendPutByte_reaches _ _)

theorem State.testSent_reaches (h : s.OpenBound q) (e : Exchange) : State.Reaches p q s (s.testSent e) := by
  unfold State.testSent; simp only; split
  · exact .of_tables rfl
  · split
    · refine .trans (.of_tables (State.tables_reportPace _ _ _)) (State.endExchange_reaches ?_ _ _)
      unfold State.reportPace; simp only; split
      · refine h.of_same rfl ?_ fun _ h => h
        cases hx : s.active <;> simp [State.mapActive, State.reportStation, State.setStation, hx]
      · exact h
    · exact State.endExchange_reaches h _ _

theorem State.takeAck_reaches (h : s.OpenBound q) (e : Exchange) : State.Reaches p q s (s.takeAck e) := by
  unfold State.takeAck; split
  · split <;> exact .of_tables rfl
  · split
    · exact State.putByteSent_reaches h e _
    · exact State.testSent_reaches h e
    · exact .of_tables rfl

theorem State.takeNak_reaches (s : State) (e : Exchange) : State.Reaches p q s (s.takeNak e) := by
  unfold State.takeNak; split
  · exact s.failExchange_reaches e _
  · exact .of_tables rfl

theorem State.onReport_reaches {w : Bool} {f : Exchange → State}
    (h : ∀ e, s.exchange = some e → w = true → State.Reaches p q s (f e)) : State.Reaches p q s (s.onReport w f) := by
  unfold State.onReport; split
  next e he =>
    split
    next hw => exact (h e he hw).trans (State.settle_reaches s _)
    next => exact .of_tables rfl
  next => exact .of_tables rfl

theorem State.cutCompletion_reaches (h : s.OpenBound q) : State.Reaches p q s s.cutCompletion := by
  unfold State.cutCompletion; split
  · split
    · exact (State.endCut_reaches h _).trans (State.settle_reaches s _)
    · exact (State.settle_reaches s _).after rfl
  · exact .of_tables rfl

theorem State.pulseCompletion_reaches (s : State) : State.Reaches p q s s.pulseCompletion := by
  unfold State.pulseCompletion; split
  · have hp : State.Reaches p q s s.busToFree.resetByPulse := s.busToFree.resetByPulse_calm.reaches
    exact (hp.trans (State.endJobSince_reaches _ _ _ _ (by simp))).trans (State.settle_reaches s _)
  · exact .of_tables rfl

theorem State.busyDelayEnd_reaches (s : State) : State.Reaches p q s s.busyDelayEnd := by
  unfold State.busyDelayEnd; split
  · exact (State.startExchange_reaches (s.setSeqState .running) false).trans (State.settle_reaches s _)
  · exact .of_tables rfl

theorem State.nextStep_reaches (s : State) : State.Reaches p q s s.nextStep := by
  unfold State.nextStep; split
  · split
    · exact (s.startExchange_reaches true).trans (State.settle_reaches s _)
    · exact .of_tables rfl
  · exact (State.Reaches.of_tables s.tables_nextVisit).trans (State.settle_reaches s _)
  · exact .of_tables rfl

/-! ### The window, the commands and the resets -/

theorem State.writeCfg_reaches (s : State) (v : Byte) : State.Reaches p q s (s.writeCfg v) := by
  unfold State.writeCfg; simp only
  refine .trans (.of_tables ?_) (State.decide_reaches _)
  split <;> simp

theorem State.writeReg_reaches {r : Reg} {v : Byte} (h : s.writeReg r v = .stored t) : State.Reaches p q s t := by
  cases r
  case cfg => cases h; exact s.writeCfg_reaches v
  case mover c m => exact (s.writeMoverReg_calm h).reaches
  case sSel | lSel | pLink =>
    simp only [State.writeReg] at h
    split at h <;> cases h
    exact .of_tables rfl
  all_goals cases h <;> exact .of_tables rfl

theorem State.dataWrite_reaches (s : State) (v : Byte) : State.Reaches p q s (s.dataWrite v) := by
  unfold State.dataWrite; simp only
  refine .trans ?_ (.of_tables (State.tables_autoStep _))
  split
  · exact .of_tables rfl
  · split
    next h => exact (State.writeReg_reaches h).trans (.of_tables rfl)
    all_goals exact .of_tables rfl

theorem State.postJob_reaches (s : State) : State.Reaches p q s s.postJob := by
  unfold State.postJob; split
  · exact .of_tables rfl
  · split
    · exact .of_tables rfl
    · exact (State.decide_reaches _).after rfl

theorem State.purgeJobs_reaches (s : State) : State.Reaches p q s s.purgeJobs := by
  unfold State.purgeJobs; simp only
  refine .trans (.of_tables ?_) (State.decide_reaches _)
  unfold State.setQroomOnFall; split <;> rfl

theorem State.popEvent_reaches (s : State) : State.Reaches p q s s.popEvent := by
  unfold State.popEvent; split
  · exact .of_tables rfl
  · exact (State.decide_reaches _).after rfl

theorem State.askRearm_reaches (s : State) : State.Reaches p q s s.askRearm := by
  unfold State.askRearm; split
  · exact .of_tables rfl
  · exact (State.decide_reaches _).after (State.tables_judgeLatch _)

theorem State.abortNow_reaches (s : State) : State.Reaches p q s s.abortNow := by
  unfold State.abortNow; split
  · exact s.endJob_reaches _ (JobKind.cleanup_false_ne _)
  · exact .of_tables rfl

theorem State.abortJob_reaches (s : State) : State.Reaches p q s s.abortJob := by
  unfold State.abortJob; split
  case h_5 => exact (State.abortNow_reaches s.taken).trans (State.decide_reaches _)
  case h_6 =>
    split
    · exact (State.cutExchange_reaches s.taken _).trans (.of_tables rfl)
    · exact (State.abortNow_reaches s.taken).trans (State.decide_reaches _)
  all_goals exact .of_tables rfl

theorem State.softResetBlocks_step (s : State) : Tables.Step p q s.tables s.softResetBlocks.tables := by
  have htab : s.softResetBlocks.tables =
      { link := fun i => if (s.link i).bound then (s.link i).closed else { s.link i with holder := none }
        free := allPages
        chan := fun c => (s.chan c).softReset } := by
    rw [State.softResetBlocks_eq]
    have hl : ∀ i : LinkIndex, (mapTable (fun l : Link => if l.bound then l.closed else { l with holder := none })
        s.links)[i] = if (s.link i).bound then (s.link i).closed else { s.link i with holder := none } :=
      fun i => mapTable_getElem _ _ _ _
    have hc : s.mover.softReset.chan = fun c => (s.chan c).softReset := funext fun c => by cases c <;> rfl
    exact (congrArg₂ (fun f g => Tables.mk f allPages g) (funext hl) hc)
  exact htab ▸ .softReset

theorem State.softReset_reaches (s : State) : State.Reaches p q s s.softReset := by
  unfold State.softReset
  have hblocks : State.Reaches p q s s.softResetBlocks := .of_step s.softResetBlocks_step
  have hbus (t : State) : State.Reaches p q t t.softResetBus := by
    unfold State.softResetBus; split
    · exact .of_tables rfl
    · exact (State.resetByPulse_calm _).reaches.after rfl
    · exact .of_tables rfl
  exact hblocks.trans (((hbus (s.softResetBlocks.setExchange (s.exchange.map Exchange.cut))).after rfl).trans
    ((State.decide_reaches _).after rfl))

theorem State.pinReset_reaches (s : State) : State.Reaches p q s s.pinReset := by
  have hl (i : LinkIndex) : s.pinReset.link i = Link.reset := by
    simp [State.link, State.pinReset, State.reset]
  have hc (c : Chan) : s.pinReset.chan c = Channel.reset := by cases c <;> rfl
  have htab : s.pinReset.tables = { link := fun _ => Link.reset, free := allPages, chan := fun _ => Channel.reset } :=
    congrArg₂ (fun f g => Tables.mk f allPages g) (funext hl) (funext hc)
  exact .of_step (htab ▸ .pinReset)

theorem State.commandWrite_reaches (s : State) (v : Byte) : State.Reaches p q s (s.commandWrite v) := by
  unfold State.commandWrite; split
  · exact s.postJob_reaches
  · exact s.popEvent_reaches
  · exact s.abortJob_reaches
  · exact s.purgeJobs_reaches
  · exact s.askRearm_reaches
  · exact s.portMark_calm.reaches
  · exact s.portSkip_calm.reaches
  · exact (s.moverStart_calm .a).reaches
  · exact (s.moverStart_calm .b).reaches
  · exact (s.moverStop_calm .a).reaches
  · exact (s.moverStop_calm .b).reaches
  · exact s.softReset_reaches
  · exact .of_tables rfl

theorem State.askAsserted_reaches (s : State) : State.Reaches p q s s.askAsserted := by
  unfold State.askAsserted; split
  · exact .of_tables rfl
  · exact (State.decide_reaches _).after (State.tables_judgeLatch _)

/-! ### Every command -/

/-- A window access is taken whole or not at all (R169). -/
theorem onWindow_reaches {f : State → State} (hf : State.Reaches p q s (f s)) (ht : onWindow f s = .next t) :
    State.Reaches p q s t := by
  rcases onWindow_cases f s with ⟨-, h⟩ | ⟨-, h⟩ <;> rw [h] at ht <;> cases ht
  · exact hf
  · exact .of_tables rfl

theorem next_reaches (ht : (Host.Outcome.next u : Host.Outcome State Fault Refusal) = .next t)
    (hu : State.Reaches p q s u) : State.Reaches p q s t := by
  cases ht; exact hu

theorem exec_reaches {i : Instr} (hr : s.TakeRoom p) (hb : s.OpenBound q) (ht : exec i s = .next t) :
    State.Reaches p q s t := by
  cases i with
  | indexWrite v =>
    exact onWindow_reaches (f := fun t => t.setWindow { t.window with index := v.setWidth 6 }) (.of_tables rfl) ht
  | statusRead =>
    exact onWindow_reaches (f := fun t => (t.setEvents { t.events with qroom := false }).readBack t.statusByte)
      (.of_tables rfl) ht
  | cfgWrite v | intEnWrite v | sSelWrite v | lSelWrite v | pLinkWrite v | maLinkWrite v | registerWrite v =>
    exact onWindow_reaches (f := (·.dataWrite v)) (s.dataWrite_reaches v) ht
  | lCountLRead | lTotalLRead | maAddrLRead | maCountLRead | pFlagsRead | dataRead =>
    exact onWindow_reaches s.dataRead_calm.reaches ht
  | portRead => exact onWindow_reaches s.portRead_calm.reaches ht
  | portWrite v => exact onWindow_reaches (f := (·.portWrite v)) (s.portWrite_calm v).reaches ht
  | portMark => exact onWindow_reaches s.portMark_calm.reaches ht
  | portSkip => exact onWindow_reaches s.portSkip_calm.reaches ht
  | moverStart c => exact onWindow_reaches (f := (·.moverStart c)) (s.moverStart_calm c).reaches ht
  | moverStop c => exact onWindow_reaches (f := (·.moverStop c)) (s.moverStop_calm c).reaches ht
  | post => exact onWindow_reaches s.postJob_reaches ht
  | pop => exact onWindow_reaches s.popEvent_reaches ht
  | abort => exact onWindow_reaches s.abortJob_reaches ht
  | purge => exact onWindow_reaches s.purgeJobs_reaches ht
  | askRearm => exact onWindow_reaches s.askRearm_reaches ht
  | softReset => exact onWindow_reaches s.softReset_reaches ht
  | unknownCommand v => exact onWindow_reaches (f := (·.commandWrite v)) (s.commandWrite_reaches v) ht
  | pinReset => exact next_reaches ht s.pinReset_reaches
  | askLineAsserted => exact next_reaches ht s.askAsserted_reaches
  | askLineReleased => exact next_reaches ht ((State.decide_reaches _).after rfl)
  | bgntGiven => exact next_reaches ht ((State.nextMove_calm _).reaches.after rfl)
  | bgntWithdrawn => exact next_reaches ht (.of_tables rfl)
  | byteMoveCompletion b => exact next_reaches ht (s.moveCompletion_calm b).reaches
  | linesReleased => exact next_reaches ht (State.onReport_reaches fun _ _ _ => .of_tables rfl)
  | ackRead =>
    exact next_reaches ht (State.onReport_reaches fun e _ _ =>
      (State.takeAck_reaches hb e).trans (State.nextMove_calm _).reaches)
  | nakRead | nakGiven => exact next_reaches ht (State.onReport_reaches fun e _ _ => s.takeNak_reaches e)
  | answerReceived d m => exact next_reaches ht (State.onReport_reaches fun e _ _ => s.takeAnswer_reaches e _)
  | frameReceived d m =>
    exact next_reaches ht (State.onReport_reaches fun e he hw =>
      State.takeFrame_reaches he (by simpa using hw) hr d m)
  | handback => exact next_reaches ht (State.onReport_reaches fun e _ _ => State.takeHandback_reaches hb e)
  | stbEdgeInHandback =>
    refine next_reaches ht (State.onReport_reaches fun e _ _ => ?_)
    split
    · exact s.failExchange_reaches e _
    · exact .of_tables rfl
  | answerTimeout =>
    exact next_reaches ht (State.onReport_reaches fun e _ _ =>
      (State.endExchange_reaches (s := s.reportStation e.station Station.answerTimeout) hb e _).after rfl)
  | frameTimeout | turnError => exact next_reaches ht (State.onReport_reaches fun e _ _ => s.failExchange_reaches e _)
  | cutCompletion => exact next_reaches ht (State.cutCompletion_reaches hb)
  | pulseCompletion => exact next_reaches ht s.pulseCompletion_reaches
  | busyDelayEnd => exact next_reaches ht s.busyDelayEnd_reaches
  | nextStep => exact next_reaches ht s.nextStep_reaches
  | noPattern => exact next_reaches ht (.of_tables s.tables_noPattern)
  | answerTenthBit => exact next_reaches ht (.of_tables s.tables_answerTenthBit)

/-- What a step can do to the tables. -/
theorem step_reaches (hr : s.TakeRoom p) (hb : s.OpenBound q) (ht : step s = .next t) : State.Reaches p q s t := by
  unfold step at ht
  split at ht
  · exact next_reaches ht (.of_tables rfl)
  next c rest _ => exact (exec_reaches (s := s.setPending rest) hr hb ht).after rfl

end Reaches
end Sys2Proof.Machine

section
open Sys2Proof.Machine

/-- Settles O53: each change of the tables keeps every page in one place. -/
theorem stepKeepsPageLaw : Obligations.StepKeepsPageLaw := by
  intro s t h ht
  have hreach : State.Reaches False False s t := step_reaches (fun h => h.elim) (fun h => h.elim) ht
  rw [State.pageLaw_iff] at h ⊢
  exact hreach.head_induction_on (motive := fun r _ => r.PageLaw → t.tables.PageLaw) id
    (fun hstep _ ih hr => ih (hstep.pageLaw hr)) h

/-- Settles O55: each change of the tables keeps holders and Running channels bound to one another. -/
theorem stepKeepsHolderLaw : Obligations.StepKeepsHolderLaw := by
  intro s t h ht
  have hreach : State.Reaches False False s t := step_reaches (fun h => h.elim) (fun h => h.elim) ht
  rw [State.holderLaw_iff] at h ⊢
  exact hreach.head_induction_on (motive := fun r _ => (∀ c, r.Bound c) → ∀ c, t.tables.Bound c) id
    (fun hstep _ ih hr => ih (hstep.bound hr)) h

end


/-! # Laws of the Active job and of its exchange across every event

A law that speaks of the links, the job queue, the Active job and the exchange in progress is kept by every step once it is
kept by the operations that touch these. `KeptByEvents` lists those operations; the rest of the machine is walked here once
for all such laws. -/

namespace Sys2Proof.Machine

/-- The operations of the sequencer, of the wire and of the resets keep the law. -/
structure KeptByEvents (K : State → Prop) : Prop where
  calm {s t : State} : K s → s.Calm t → K t
  atRest {s t : State} : K s → s.active = none → t.active = none → t.jobs = s.jobs → t.tables = s.tables →
    (∀ e, t.exchange = some e → e.kind = .status) → K t
  queue {s : State} {js : List Job} : K s → (s.active.isSome = true → js.head? = s.jobs.head?) →
    (∀ j ∈ js, j ∈ s.jobs ∨ s.settings.postedJob = some j) → K (s.setJobs js)
  startJob {s : State} : K s → s.busView.AtIdle → K s.startJob
  startExchange {s : State} (later : Bool) : K s → s.busView.BetweenExchanges → K (s.startExchange later)
  takeAck {s : State} {e : Exchange} : K s → s.OnWire e → s.bus.activity = .header ∨ s.bus.activity = .sending →
    K (s.takeAck e)
  takeAnswer {s : State} {e : Exchange} (a : Answer) : K s → s.OnWire e → s.bus.activity = .turnaround →
    K (s.takeAnswer e a)
  takeFrame {s : State} {e : Exchange} (v : Byte) (m : Bool) : K s → s.OnWire e → s.bus.activity = .receiving →
    K (s.takeFrame e v m)
  takeHandback {s : State} {e : Exchange} : K s → s.OnWire e → s.bus.activity = .handback → K (s.takeHandback e)
  failExchange {s : State} {e : Exchange} (o : ExchangeOutcome) : K s → s.exchange = some e → K (s.failExchange e o)
  answerTimeout {s : State} {e : Exchange} : K s → s.OnWire e → s.bus.activity = .turnaround →
    K (s.endExchange e .noStation)
  endCut {s : State} {e : Exchange} : K s → s.busView.Lawful → s.exchange = some e → e.phase = .cut → K (s.endCut e)
  cutExchange {s : State} {e : Exchange} : K s → s.exchange = some e → K (s.cutExchange e)
  abortNow {s : State} : K s → s.busView.JobAtRest → K s.abortNow
  endBusReset {s : State} (n : Nat) : K s → s.busView.JobAtRest → s.busView.headIsBusReset = true →
    K (s.endJobSince n .done .keep)
  softResetBlocks {s : State} : K s → K (s.softResetBlocks.setExchange (s.exchange.map Exchange.cut))
  pinReset (s : State) : K s.pinReset

section Walk
variable {K : State → Prop} {s t : State}

/-! ### Scans, which no job and no link takes part in -/

theorem State.setAttention_calm (s : State) (x : Attention) : s.Calm (s.setAttention x) := .of_tables rfl rfl rfl rfl
theorem State.setSeq_calm (s : State) (x : Sequencer) : s.Calm (s.setSeq x) := .of_tables rfl rfl rfl rfl
theorem State.setBus_calm (s : State) (x : BusUnit) : s.Calm (s.setBus x) := .of_tables rfl rfl rfl rfl
theorem State.setPins_calm (s : State) (x : Pins) : s.Calm (s.setPins x) := .of_tables rfl rfl rfl rfl
theorem State.taken_calm (s : State) : s.Calm s.taken := .of_tables rfl rfl rfl rfl
theorem State.refuse_calm (s : State) (r : Reason) : s.Calm (s.refuse r) := .of_tables rfl rfl rfl rfl
theorem State.reportStation_calm (s : State) (i : StationIndex) (f : Station → Station) : s.Calm (s.reportStation i f) :=
  .of_tables rfl rfl rfl rfl

theorem State.recordClaim_calm (s : State) (e : Exchange) (v : Byte) : s.Calm (s.recordClaim e v) := by
  unfold State.recordClaim; split
  · split
    · exact s.setAttention_calm _
    · exact .refl s
  · exact .refl s

theorem State.leaveScan_calm (s : State) : s.Calm s.leaveScan := by
  unfold State.leaveScan
  refine .trans ?_ (State.judgeLatch_calm _)
  exact .of_tables rfl rfl rfl rfl

theorem State.endScanUnclaimed_calm (s : State) (x : Scan) : s.Calm (s.endScanUnclaimed x) := by
  unfold State.endScanUnclaimed
  refine .trans ?_ (State.leaveScan_calm _)
  exact .of_tables rfl rfl rfl rfl

theorem State.endScanClaimed_calm (s : State) (x : Scan) (st : StationIndex) (v : Byte) (r : JobResult) :
    s.Calm (s.endScanClaimed x st v r) := by
  unfold State.endScanClaimed
  refine .trans ?_ (State.leaveScan_calm _)
  exact .of_tables rfl rfl rfl rfl

theorem State.endVisit_calm (s : State) (o : ExchangeOutcome) : s.Calm (s.endVisit o) := by
  unfold State.endVisit; split
  · exact .refl s
  · simp only; split
    · exact (s.setAttention_calm _).trans (State.endScanClaimed_calm _ _ _ _ _)
    · split
      · exact s.setAttention_calm _
      · exact (s.setAttention_calm _).trans (State.endScanUnclaimed_calm _ _)

/-- A scan that starts, or goes on, begins a visit or ends, and leaves the jobs and the links alone (R123, R125). -/
theorem State.startScan_cases (s : State) :
    s.Calm s.startScan ∨ ∃ t x i, s.Calm t ∧ s.startScan = t.beginVisit x i := by
  unfold State.startScan; simp only; split
  next i _ =>
    refine .inr ⟨_, _, i, ?_, rfl⟩
    exact .of_tables rfl rfl rfl rfl
  next =>
    refine .inl (.trans ?_ (State.endScanUnclaimed_calm _ _))
    exact .of_tables rfl rfl rfl rfl

theorem State.nextVisit_cases (s : State) :
    s.Calm s.nextVisit ∨ ∃ t x i, s.Calm t ∧ s.nextVisit = t.beginVisit x i := by
  unfold State.nextVisit; split
  · exact .inl (.refl s)
  next x _ =>
    split
    next i _ => exact .inr ⟨s, x, i, .refl s, rfl⟩
    next => exact .inl (s.endScanUnclaimed_calm x)

theorem KeptByEvents.visit (hK : KeptByEvents K) (h : K s) (ha : s.active = none)
    (hv : s.Calm t ∨ ∃ u x i, s.Calm u ∧ t = u.beginVisit x i) : K t := by
  rcases hv with hc | ⟨u, x, i, hc, rfl⟩
  · exact hK.calm h hc
  · have hu : u.active = none := hc.active.trans ha
    refine hK.atRest (hK.calm h hc) hu hu rfl rfl fun e he => ?_
    obtain rfl : statusExchange i = e := Option.some.inj he
    rfl

/-! ### The arbiter -/

theorem KeptByEvents.arbitrate (hK : KeptByEvents K) (fuel : Nat) (h : K s) (law : s.busView.Lawful) :
    K (State.arbitrate fuel s) := by
  induction fuel generalizing s with
  | zero => exact h
  | succ fuel ih =>
    unfold State.arbitrate; split
    next idle =>
      split
      · exact hK.calm h (s.setSeq_calm _)
      next w _ =>
        split
        · exact hK.calm h (s.setSeq_calm _)
        · have h' := hK.calm h (s.setSeq_calm { s.seq with stall := false })
          have at' : (s.setSeq { s.seq with stall := false }).busView.AtIdle := law.atIdle idle
          refine ih ?_ (State.carryOut_lawful at' w)
          cases w with
          | job => exact hK.startJob h' at'
          | scan => exact hK.visit h' (by simpa using at'.active) (State.startScan_cases _)
    next => exact h

theorem KeptByEvents.decide (hK : KeptByEvents K) (h : K s) (law : s.busView.Lawful) : K s.decide :=
  hK.arbitrate _ h law

/-- With no job queued and none Active, a decision can start nothing but a scan (R90). -/
theorem KeptByEvents.arbitrate_of_no_job (hK : KeptByEvents K) (fuel : Nat) (h : K s) (hj : s.jobs = [])
    (ha : s.active = none) : K (State.arbitrate fuel s) := by
  induction fuel generalizing s with
  | zero => exact h
  | succ fuel ih =>
    unfold State.arbitrate; split
    · split
      · exact hK.calm h (s.setSeq_calm _)
      next w hw =>
        split
        · exact hK.calm h (s.setSeq_calm _)
        · obtain rfl : .scan = w := by
            simp only [State.namedStart, hj, List.isEmpty_nil] at hw
            split at hw <;> simp_all
          have frame := (s.setSeq { s.seq with stall := false }).startScan_scanFrame.whole
          refine ih (hK.visit (hK.calm h (s.setSeq_calm { s.seq with stall := false })) ha (State.startScan_cases _)) ?_ ?_
          · exact (congrArg State.jobs frame).trans hj
          · exact (congrArg State.active frame).trans ha
    · exact h

theorem KeptByEvents.settle (hK : KeptByEvents K) (h : K t) (law : t.busView.Lawful) : K (State.settle s t) := by
  unfold State.settle; split
  · exact h
  · exact hK.decide h law

/-! ### The wire -/

theorem KeptByEvents.onReport (hK : KeptByEvents K) (h : K s) {w : Bool} {f : Exchange → State}
    (hf : ∀ e, s.exchange = some e → w = true → K (f e) ∧ (f e).busView.Lawful) : K (s.onReport w f) := by
  unfold State.onReport; split
  next e he =>
    split
    next hw => exact hK.settle (hf e he hw).1 (hf e he hw).2
    next => exact h
  next => exact h

/-- The header begins, and the sequencer goes on (R13). -/
theorem KeptByEvents.linesReleased (hK : KeptByEvents K) (h : K s) (law : s.busView.Lawful) : K s.linesReleased := by
  unfold State.linesReleased State.onReport; split
  next e he =>
    have busy : s.seq.state ≠ .idle := fun hq => by simpa [he] using (law.atIdle hq).exchange
    split
    · rw [State.settle_of_not_idle _ _ busy, State.decide_of_not_idle _ (by exact busy)]
      exact hK.calm h (.of_tables rfl rfl rfl rfl)
    · exact h
  next => exact h

theorem KeptByEvents.cutCompletion (hK : KeptByEvents K) (h : K s) (law : s.busView.Lawful) : K s.cutCompletion := by
  unfold State.cutCompletion; split
  next ha =>
    split
    next e he =>
      have hp : e.phase = .cut := by
        have := (law.seq.fits he).1
        cases hp : e.phase <;> simp_all [Phase.fits]
      exact hK.settle (hK.endCut h law he hp) (State.endCut_lawful law he hp)
    next he => rcases law.seq.free_or_pulsing he with hf | hf <;> simp_all
  next => exact h

theorem KeptByEvents.pulseCompletion (hK : KeptByEvents K) (h : K s) (law : s.busView.Lawful) : K s.pulseCompletion := by
  unfold State.pulseCompletion; split
  next ha =>
    have sq := law.seq
    have hq : s.seq.state = .resetting := ((s.busView_lawful_iff.mp law).2.2.2.2).mp ha
    rw [BusView.SeqLaw, State.busView_seq, hq] at sq
    obtain ⟨active, scanning, reset, exchange, -⟩ := sq
    have hview : s.busToFree.resetByPulse.busView = { s.busView with activity := .free, waiting := none } := by
      rw [State.busView_resetByPulse, State.busView_busToFree s law.waiting]
    have rest : s.busToFree.resetByPulse.busView.JobAtRest := by
      rw [hview]; exact ⟨law.room, law.head active, active, rfl, scanning, exchange, rfl⟩
    have h' : K s.busToFree.resetByPulse := hK.calm h ((s.setBus_calm _).trans (State.resetByPulse_calm _))
    exact hK.settle (hK.endBusReset _ h' rest (by rw [hview]; exact reset)) (State.endJobSince_lawful rest _ _ _)
  next => exact h

theorem KeptByEvents.busyDelayEnd (hK : KeptByEvents K) (h : K s) (law : s.busView.Lawful) : K s.busyDelayEnd := by
  unfold State.busyDelayEnd; split
  next hq =>
    have sq := law.seq
    rw [BusView.SeqLaw, State.busView_seq, hq] at sq
    obtain ⟨active, scanning, head, exchange, free⟩ := sq
    have between : (s.setSeqState .running).busView.BetweenExchanges :=
      ⟨⟨law.room, law.head active, active, law.waiting, scanning, exchange, free⟩, rfl, head⟩
    exact hK.settle (hK.startExchange false (hK.calm h (s.setSeq_calm _)) between)
      (State.startExchange_lawful between false)
  next => exact h

theorem KeptByEvents.nextStep (hK : KeptByEvents K) (h : K s) (law : s.busView.Lawful) : K s.nextStep := by
  have whole (he : s.exchange = none) (hq : s.seq.state = .running ∨ s.seq.state = .scanning) :
      s.busView = { s.busView with exchange := none, activity := .free, waiting := none } := by
    have hw : s.bus.waiting = none := law.waiting
    have hf : s.bus.activity = .free := law.carries_none he hq
    simp [State.busView, he, hw, hf]
  unfold State.nextStep; split
  next hq he =>
    split
    · have between : s.busView.BetweenExchanges := whole he (.inl hq) ▸ law.betweenExchanges hq
      exact hK.settle (hK.startExchange true h between) (State.startExchange_lawful between true)
    · exact h
  next hq he =>
    have between : s.busView.BetweenVisits := whole he (.inr hq) ▸ law.betweenVisits hq
    exact hK.settle (hK.visit h (by simpa using between.active) s.nextVisit_cases) (State.nextVisit_lawful between)
  next => exact h

/-! ### The window and the commands -/

theorem KeptByEvents.writeCfg (hK : KeptByEvents K) (h : K s) (law : s.busView.Lawful) (v : Byte) :
    K (s.writeCfg v) := by
  unfold State.writeCfg; simp only
  split
  · refine hK.decide (hK.calm h ?_) (by rw [State.busView_judgeLatch]; exact law)
    refine .trans ?_ (State.judgeLatch_calm _)
    exact .of_tables rfl rfl rfl rfl
  · exact hK.decide (hK.calm h (.of_tables rfl rfl rfl rfl)) law

theorem KeptByEvents.writeReg (hK : KeptByEvents K) (h : K s) (law : s.busView.Lawful) {r : Reg} {v : Byte}
    (hr : s.writeReg r v = .stored t) : K t := by
  cases r
  case cfg => cases hr; exact hK.writeCfg h law v
  case mover c m => exact hK.calm h (s.writeMoverReg_calm hr)
  case sSel | lSel | pLink =>
    simp only [State.writeReg] at hr
    split at hr <;> cases hr
    exact hK.calm h (.of_tables rfl rfl rfl rfl)
  all_goals cases hr <;> exact hK.calm h (.of_tables rfl rfl rfl rfl)

theorem KeptByEvents.dataWrite (hK : KeptByEvents K) (h : K s) (law : s.busView.Lawful) (v : Byte) :
    K (s.dataWrite v) := by
  unfold State.dataWrite; simp only
  refine hK.calm ?_ (State.autoStep_calm _)
  split
  · exact h
  · split
    next hr => exact hK.calm (hK.writeReg h law hr) (State.taken_calm _)
    · exact hK.calm h (s.refuse_calm _)
    · exact h

theorem KeptByEvents.postJob (hK : KeptByEvents K) (h : K s) (law : s.busView.Lawful) : K s.postJob := by
  have lawful := State.postJob_lawful law
  unfold State.postJob at lawful ⊢; split
  · exact hK.calm h (s.refuse_calm _)
  next j hj =>
    split
    · exact hK.calm h (s.refuse_calm _)
    next room =>
      have hhead (ha : s.active.isSome = true) : (s.jobs ++ [j]).head? = s.jobs.head? :=
        List.head?_append_of_ne_nil _ (law.head ha)
      have hq := hK.queue (js := s.jobs ++ [j]) h hhead (by simp +contextual [or_imp, hj])
      refine hK.decide (hK.calm hq (State.taken_calm _)) (law.withJobs (js := s.jobs ++ [j]) ?_ hhead)
      simp only [Config.jobLimit, List.length_append, List.length_singleton] at room ⊢; omega

theorem KeptByEvents.purgeJobs (hK : KeptByEvents K) (h : K s) (law : s.busView.Lawful) : K s.purgeJobs := by
  have hhead (ha : s.active.isSome = true) : s.keptJobs.head? = s.jobs.head? := by
    simp [State.keptJobs, ha, List.head?_take]
  have hmem (j) (hj : j ∈ s.keptJobs) : j ∈ s.jobs := by
    unfold State.keptJobs at hj; split at hj
    · exact List.mem_of_mem_take hj
    · simp at hj
  have hq : K (s.setJobs s.keptJobs) := hK.queue h hhead fun j hj => .inl (hmem j hj)
  have hl : BusView.Lawful { s.busView with jobs := s.keptJobs } := by
    refine law.withJobs ?_ hhead
    unfold State.keptJobs; split <;> simp [Config.jobLimit]
  unfold State.purgeJobs
  refine hK.decide (hK.calm hq ?_) ?_
  · unfold State.setQroomOnFall; split <;> exact .of_tables rfl rfl rfl rfl
  · simpa only [State.busView_taken, State.busView_setWindow, State.busView_setJobs, State.busView_setQroomOnFall] using hl

theorem KeptByEvents.popEvent (hK : KeptByEvents K) (h : K s) (law : s.busView.Lawful) : K s.popEvent := by
  unfold State.popEvent; split
  · exact hK.calm h (s.refuse_calm _)
  · exact hK.decide (hK.calm h (.of_tables rfl rfl rfl rfl)) law

theorem KeptByEvents.askRearm (hK : KeptByEvents K) (h : K s) (law : s.busView.Lawful) : K s.askRearm := by
  unfold State.askRearm; split
  · exact hK.calm h s.taken_calm
  · refine hK.decide (hK.calm h ?_) ?_
    · exact ((s.setAttention_calm _).trans (State.judgeLatch_calm _)).trans (State.taken_calm _)
    · rw [State.busView_taken, State.busView_judgeLatch]; exact law

theorem KeptByEvents.abortJob (hK : KeptByEvents K) (h : K s) (law : s.busView.Lawful) : K s.abortJob := by
  have sq := law.seq
  have ht := hK.calm h s.taken_calm
  unfold State.abortJob
  cases hq : s.seq.state <;> simp only
  case holding =>
    rw [BusView.SeqLaw, State.busView_seq, hq] at sq
    obtain ⟨active, scanning, -, exchange, free⟩ := sq
    have rest : s.taken.busView.JobAtRest := ⟨law.room, law.head active, active, law.waiting, scanning, exchange, free⟩
    exact hK.decide (hK.abortNow ht rest) (State.abortNow_lawful rest)
  case running =>
    rw [BusView.SeqLaw, State.busView_seq, hq] at sq
    obtain ⟨active, scanning, -⟩ := sq
    cases he : s.exchange with
    | some e => exact hK.calm (hK.cutExchange (e := e) ht he) (State.setSeq_calm _ _)
    | none =>
      have free := law.carries_none he (.inl hq)
      have rest : s.taken.busView.JobAtRest := ⟨law.room, law.head active, active, law.waiting, scanning, he, free⟩
      exact hK.decide (hK.abortNow ht rest) (State.abortNow_lawful rest)
  all_goals exact hK.calm h (s.refuse_calm _)

theorem KeptByEvents.softReset (hK : KeptByEvents K) (h : K s) : K s.softReset := by
  have hbus (t : State) : t.Calm t.softResetBus := by
    unfold State.softResetBus; split
    · exact .refl _
    · exact (State.setBus_calm _ _).trans (State.resetByPulse_calm _)
    · exact State.setBus_calm _ _
  have hc := (hbus (s.softResetBlocks.setExchange (s.exchange.map Exchange.cut))).trans
    ((State.setSeq_calm _ { (s.softResetBlocks.setExchange (s.exchange.map Exchange.cut)).softResetBus.seq with
      state := s.softResetSeq }).trans (State.taken_calm _))
  refine hK.arbitrate_of_no_job _ (hK.calm (hK.softResetBlocks h) hc) ?_ ?_
  · exact hc.jobs.trans (congrArg State.jobs s.softResetBlocks_eq)
  · exact hc.active.trans (congrArg State.active s.softResetBlocks_eq)

theorem KeptByEvents.commandWrite (hK : KeptByEvents K) (h : K s) (law : s.busView.Lawful) (v : Byte) :
    K (s.commandWrite v) := by
  unfold State.commandWrite; split
  · exact hK.postJob h law
  · exact hK.popEvent h law
  · exact hK.abortJob h law
  · exact hK.purgeJobs h law
  · exact hK.askRearm h law
  · exact hK.calm h s.portMark_calm
  · exact hK.calm h s.portSkip_calm
  · exact hK.calm h (s.moverStart_calm .a)
  · exact hK.calm h (s.moverStart_calm .b)
  · exact hK.calm h (s.moverStop_calm .a)
  · exact hK.calm h (s.moverStop_calm .b)
  · exact hK.softReset h
  · exact hK.calm h (s.refuse_calm _)

theorem KeptByEvents.askAsserted (hK : KeptByEvents K) (h : K s) (law : s.busView.Lawful) : K s.askAsserted := by
  unfold State.askAsserted; split
  · exact h
  · refine hK.decide (hK.calm h ((s.setPins_calm _).trans (State.judgeLatch_calm _))) ?_
    rw [State.busView_judgeLatch]; exact law

/-! ### Every command -/

theorem onWindow_keeps {f : State → State} (h : K s) (hf : K (f s)) (ht : onWindow f s = .next t) : K t := by
  rcases onWindow_cases f s with ⟨-, heq⟩ | ⟨-, heq⟩ <;> rw [heq] at ht <;> cases ht
  · exact hf
  · exact h

theorem next_keeps (ht : (Host.Outcome.next s : Host.Outcome State Fault Refusal) = .next t) (h : K s) : K t := by
  cases ht; exact h

theorem KeptByEvents.exec (hK : KeptByEvents K) {i : Instr} (h : K s) (law : s.busView.Lawful)
    (ht : exec i s = .next t) : K t := by
  have wire {e : Exchange} (he : s.exchange = some e) (ha : s.bus.activity ≠ .cutting) : s.OnWire e := law.onWire he ha
  have fails (o : ExchangeOutcome) (ho : o.failure = true) {e : Exchange} (he : s.exchange = some e) :
      K (s.failExchange e o) ∧ (s.failExchange e o).busView.Lawful :=
    ⟨hK.failExchange o h he, State.failExchange_lawful law he e ho⟩
  have naks {e : Exchange} (he : s.exchange = some e) : K (s.takeNak e) ∧ (s.takeNak e).busView.Lawful := by
    unfold State.takeNak; split
    · exact fails .frameError rfl he
    · exact ⟨hK.calm h (s.setBus_calm _), law⟩
  cases i with
  | indexWrite v =>
    exact onWindow_keeps (f := fun t => t.setWindow { t.window with index := v.setWidth 6 }) h
      (hK.calm h (.of_tables rfl rfl rfl rfl)) ht
  | statusRead =>
    exact onWindow_keeps (f := fun t => (t.setEvents { t.events with qroom := false }).readBack t.statusByte) h
      (hK.calm h (.of_tables rfl rfl rfl rfl)) ht
  | cfgWrite v | intEnWrite v | sSelWrite v | lSelWrite v | pLinkWrite v | maLinkWrite v | registerWrite v =>
    exact onWindow_keeps (f := (·.dataWrite v)) h (hK.dataWrite h law v) ht
  | lCountLRead | lTotalLRead | maAddrLRead | maCountLRead | pFlagsRead | dataRead =>
    exact onWindow_keeps h (hK.calm h s.dataRead_calm) ht
  | portRead => exact onWindow_keeps h (hK.calm h s.portRead_calm) ht
  | portWrite v => exact onWindow_keeps (f := (·.portWrite v)) h (hK.calm h (s.portWrite_calm v)) ht
  | portMark => exact onWindow_keeps h (hK.calm h s.portMark_calm) ht
  | portSkip => exact onWindow_keeps h (hK.calm h s.portSkip_calm) ht
  | moverStart c => exact onWindow_keeps (f := (·.moverStart c)) h (hK.calm h (s.moverStart_calm c)) ht
  | moverStop c => exact onWindow_keeps (f := (·.moverStop c)) h (hK.calm h (s.moverStop_calm c)) ht
  | post => exact onWindow_keeps h (hK.postJob h law) ht
  | pop => exact onWindow_keeps h (hK.popEvent h law) ht
  | abort => exact onWindow_keeps h (hK.abortJob h law) ht
  | purge => exact onWindow_keeps h (hK.purgeJobs h law) ht
  | askRearm => exact onWindow_keeps h (hK.askRearm h law) ht
  | softReset => exact onWindow_keeps h (hK.softReset h) ht
  | unknownCommand v => exact onWindow_keeps (f := (·.commandWrite v)) h (hK.commandWrite h law v) ht
  | pinReset => exact next_keeps ht (hK.pinReset s)
  | askLineAsserted => exact next_keeps ht (hK.askAsserted h law)
  | askLineReleased => exact next_keeps ht (hK.decide (hK.calm h (.of_tables rfl rfl rfl rfl)) law)
  | bgntGiven => exact next_keeps ht (hK.calm h ((s.setPins_calm _).trans (State.nextMove_calm _)))
  | bgntWithdrawn => exact next_keeps ht (hK.calm h (s.setPins_calm _))
  | byteMoveCompletion b => exact next_keeps ht (hK.calm h (s.moveCompletion_calm b))
  | linesReleased => exact next_keeps ht (hK.linesReleased h law)
  | ackRead =>
    refine next_keeps ht (hK.onReport h fun e he hw => ?_)
    have ha : s.bus.activity = .header ∨ s.bus.activity = .sending := by simpa using hw
    have hw := wire he (by rcases ha with ha | ha <;> simp [ha])
    exact ⟨hK.calm (hK.takeAck h hw ha) (State.nextMove_calm _), by
      rw [State.busView_nextMove]; exact State.takeAck_lawful hw⟩
  | nakRead | nakGiven => exact next_keeps ht (hK.onReport h fun e he _ => naks he)
  | answerReceived d m =>
    refine next_keeps ht (hK.onReport h fun e he hw => ?_)
    have ha : s.bus.activity = .turnaround := by simpa using hw
    have hw := wire he (by simp [ha])
    exact ⟨hK.takeAnswer _ h hw ha, State.takeAnswer_lawful hw _⟩
  | frameReceived d m =>
    refine next_keeps ht (hK.onReport h fun e he hw => ?_)
    have ha : s.bus.activity = .receiving := by simpa using hw
    have hw := wire he (by simp [ha])
    exact ⟨hK.takeFrame d m h hw ha, State.takeFrame_lawful hw d m⟩
  | handback =>
    refine next_keeps ht (hK.onReport h fun e he hw => ?_)
    have ha : s.bus.activity = .handback := by simpa using hw
    have hw := wire he (by simp [ha])
    exact ⟨hK.takeHandback h hw ha, State.takeHandback_lawful hw⟩
  | stbEdgeInHandback =>
    refine next_keeps ht (hK.onReport h fun e he _ => ?_)
    split
    · exact fails .turnError rfl he
    · exact ⟨h, law⟩
  | answerTimeout =>
    refine next_keeps ht (hK.onReport h fun e he hw => ?_)
    have ha : s.bus.activity = .turnaround := by simpa using (Bool.and_eq_true_iff.mp hw).1
    have hw : (s.reportStation e.station Station.answerTimeout).OnWire e := (wire he (by simp [ha])).of_view rfl
    exact ⟨hK.answerTimeout (hK.calm h (s.reportStation_calm _ _)) hw ha, hw.endExchange_lawful e _⟩
  | frameTimeout => exact next_keeps ht (hK.onReport h fun e he _ => fails .frameTimeout rfl he)
  | turnError => exact next_keeps ht (hK.onReport h fun e he _ => fails .turnError rfl he)
  | cutCompletion => exact next_keeps ht (hK.cutCompletion h law)
  | pulseCompletion => exact next_keeps ht (hK.pulseCompletion h law)
  | busyDelayEnd => exact next_keeps ht (hK.busyDelayEnd h law)
  | nextStep => exact next_keeps ht (hK.nextStep h law)
  | noPattern =>
    refine next_keeps ht (hK.calm h ?_)
    unfold State.noPattern; split
    · exact s.setBus_calm _
    · exact .refl s
  | answerTenthBit =>
    refine next_keeps ht (hK.calm h ?_)
    unfold State.answerTenthBit; split
    · exact s.setBus_calm _
    · exact .refl s

/-- A step keeps the law. -/
theorem KeptByEvents.step (hK : KeptByEvents K) (h : K s) (law : s.busView.Lawful) (ht : step s = .next t) : K t := by
  unfold Machine.step at ht
  split at ht
  · exact next_keeps ht h
  next c rest _ => exact hK.exec (s := s.setPending rest) (hK.calm h (.of_tables rfl rfl rfl rfl)) law ht

end Walk
end Sys2Proof.Machine


namespace Sys2Proof.Machine

/-! ### Links in Opening and Shutting (R68, R100) -/

/-- The link is neither Opening nor Shutting: no Active job has to be at work on it. -/
def Link.AtRest (l : Link) : Prop := l.state ≠ .opening ∧ l.state ≠ .shutting

/-- No link is Opening or Shutting. -/
def State.LinksAtRest (s : State) : Prop := ∀ i, (s.link i).AtRest

section LinkJob
variable {s t : State}

theorem Link.Kept.state_iff {l l' : Link} (h : l.Kept l') :
    (l'.state = .opening ↔ l.state = .opening) ∧ (l'.state = .shutting ↔ l.state = .shutting) := by
  rcases h.state with hs | ⟨ho, hl⟩
  · simp [hs]
  · simp [ho, hl]

theorem Link.Kept.atRest {l l' : Link} (h : l.Kept l') (hr : l.AtRest) : l'.AtRest :=
  ⟨fun g => hr.1 (h.state_iff.1.mp g), fun g => hr.2 (h.state_iff.2.mp g)⟩

theorem State.jobHolds_eq {j : Job} {x : JobContext} (h : s.activeJob = some (j, x)) (k : JobKind) (i : LinkIndex) :
    s.jobHolds k i = (j.kind == k && j.linkIndex == i) := by
  simp [State.jobHolds, h]

theorem State.jobHolds_of_none (h : s.activeJob = none) (k : JobKind) (i : LinkIndex) : s.jobHolds k i = false := by
  simp [State.jobHolds, h]

/-- With no Active job the law says that no link is Opening or Shutting. -/
theorem State.linkJobLaw_iff_of_none (h : s.activeJob = none) : s.LinkJobLaw ↔ s.LinksAtRest := by
  simp [State.LinkJobLaw, State.LinksAtRest, Link.AtRest, State.jobHolds_of_none h]

theorem State.activeJob_of_active_none (h : s.active = none) : s.activeJob = none := by
  simp [State.activeJob, h]

/-- With a job Active that is no OPEN and no SHUT, the law says the same. -/
theorem State.linkJobLaw_iff_of_other {j : Job} {x : JobContext} (h : s.activeJob = some (j, x))
    (ho : j.kind ≠ .openLink) (hs : j.kind ≠ .shut) : s.LinkJobLaw ↔ s.LinksAtRest := by
  simp [State.LinkJobLaw, State.LinksAtRest, Link.AtRest, State.jobHolds_eq h, ho, hs]

/-- The links of no Active job are at rest. -/
theorem State.LinkJobLaw.others {j : Job} {x : JobContext} (law : s.LinkJobLaw) (h : s.activeJob = some (j, x))
    (i : LinkIndex) (hi : i ≠ j.linkIndex) : (s.link i).AtRest := by
  obtain ⟨opening, shutting⟩ := law i
  rw [State.jobHolds_eq h] at opening shutting
  have hn : ¬(j.linkIndex = i) := fun g => hi g.symm
  exact ⟨by simp [opening, hn], by simp [shutting, hn]⟩

/-- The law looks at the states of the links, at the queue's head, and at whether it is Active. -/
theorem State.LinkJobLaw.of_same (law : s.LinkJobLaw) (links : ∀ i, (s.link i).Kept (t.link i))
    (head : s.active.isSome = true → t.jobs.head? = s.jobs.head?) (active : t.active.isSome = s.active.isSome) :
    t.LinkJobLaw := by
  have holds (k : JobKind) (i : LinkIndex) : t.jobHolds k i = s.jobHolds k i := by
    unfold State.jobHolds State.activeJob
    cases ha : s.active with
    | none =>
      have : t.active = none := by simpa [ha] using active
      simp [this]
    | some x =>
      obtain ⟨y, hy⟩ := Option.isSome_iff_exists.mp (active.trans (by simp [ha]))
      have := head (by simp [ha])
      cases hs : s.jobs <;> cases ht : t.jobs <;> simp_all
  intro i
  rw [holds, holds, (links i).state_iff.1, (links i).state_iff.2]
  exact law i

theorem State.LinkJobLaw.of_calm (law : s.LinkJobLaw) (h : s.Calm t) : t.LinkJobLaw :=
  law.of_same h.kept (fun _ => by rw [h.jobs]) (by rw [h.active])

/-- The Active job's context takes no part in the law. -/
theorem State.LinkJobLaw.setActive (law : s.LinkJobLaw) {j : Job} {x : JobContext} (h : s.activeJob = some (j, x))
    (y : JobContext) : (s.setActive (some y)).LinkJobLaw := by
  refine law.of_same (fun _ => .refl _) (fun _ => rfl) ?_
  unfold State.activeJob at h
  cases hx : s.active <;> simp_all

/-! ### The end of a job -/

theorem State.closeLink_link_atRest (s : State) (i : LinkIndex) (r : StopReason)
    (h : ∀ k, k ≠ i → (s.link k).AtRest) : (s.closeLink i r).LinksAtRest := by
  have hc : ((s.setLink i (s.link i).closed).returnPages (s.link i).pages).LinksAtRest := fun k => by
    change ((s.setLink i (s.link i).closed).link k).AtRest
    by_cases hk : k = i
    · subst hk; simp [Link.AtRest, Link.closed]
    · rw [State.link_setLink_other _ _ _ _ hk]; exact h k hk
  unfold State.closeLink; simp only; split
  next c _ => exact fun k => ((State.stopChannel_calm _ c r).kept k).atRest (hc k)
  next => exact hc

theorem State.cleanUp_atRest (s : State) (i : LinkIndex) (c : Cleanup)
    (h : ∀ k, k ≠ i ∨ c = .keep → (s.link k).AtRest) : (s.cleanUp i c).1.LinksAtRest := by
  cases c with
  | keep => exact fun k => h k (.inr rfl)
  | close r => exact s.closeLink_link_atRest i r fun k hk => h k (.inl hk)
  | opened =>
    intro k
    change ((s.setLink i _).link k).AtRest
    by_cases hk : k = i
    · subst hk; simp [Link.AtRest]
    · rw [State.link_setLink_other _ _ _ _ hk]; exact h k (.inl hk)

theorem State.leaveQueue_active (s : State) : s.leaveQueue.active = none := rfl

theorem State.leaveQueue_link (s : State) : s.leaveQueue.link = s.link := congrArg Tables.link s.tables_leaveQueue

theorem State.postAmong_link (s : State) (k h e) : (s.postAmong k h e).link = s.link :=
  congrArg Tables.link (s.tables_postAmong k h e)

/-- A job's end leaves no link Opening or Shutting (R64, R66): its own is cleaned up, and no other was. -/
theorem State.endJobSince_linkJobLaw (n : Nat) (r : JobResult) (c : Cleanup) {j : Job} {x : JobContext}
    (hact : s.activeJob = some (j, x)) (h : ∀ k, k ≠ j.linkIndex ∨ c = .keep → (s.link k).AtRest) :
    (s.endJobSince n r c).LinkJobLaw := by
  simp only [State.endJobSince, hact]
  rw [State.linkJobLaw_iff_of_none (State.activeJob_of_active_none (State.leaveQueue_active _))]
  intro k
  rw [State.leaveQueue_link, State.postAmong_link]
  exact s.cleanUp_atRest _ c h k

/-- A job whose cleanup is its kind's leaves no link Opening or Shutting (R64, R66). -/
theorem State.LinkJobLaw.endJob (law : s.LinkJobLaw) (r : JobResult) {c : Cleanup} {j : Job} {x : JobContext}
    (hact : s.activeJob = some (j, x)) (hc : c = .keep → j.kind ≠ .openLink ∧ j.kind ≠ .shut) :
    (s.endJob r c).LinkJobLaw :=
  State.endJobSince_linkJobLaw _ r c hact fun k hk => by
    by_cases hkeep : c = .keep
    · exact (State.linkJobLaw_iff_of_other hact (hc hkeep).1 (hc hkeep).2).mp law k
    · exact law.others hact k (hk.resolve_right hkeep)

theorem JobKind.cleanup_keep {k : JobKind} {o : Bool} (h : k.cleanup o = .keep) : k ≠ .openLink ∧ k ≠ .shut := by
  cases k <;> cases o <;> simp [JobKind.cleanup] at h ⊢

/-! ### The operations of the sequencer -/

theorem State.LinkJobLaw.beginExchange (law : s.LinkJobLaw) (e : Exchange) : (s.beginExchange e).LinkJobLaw :=
  law.of_same (fun _ => .refl _) (fun _ => rfl) rfl

theorem State.LinkJobLaw.startExchange (law : s.LinkJobLaw) (later : Bool) : (s.startExchange later).LinkJobLaw := by
  unfold State.startExchange; split
  · exact law
  next j x hact =>
    split
    case h_3 hk =>
      rcases s.startPut_cases j x with ⟨r, h⟩ | ⟨e, -, h⟩ <;> rw [h]
      · exact law.endJob r hact fun _ => by simp [hk]
      · exact law.beginExchange e
    case h_4 hk =>
      rcases s.startTake_cases j x later with ⟨r, h⟩ | ⟨e, -, h⟩ <;> rw [h]
      · exact law.endJob r hact fun _ => by simp [hk]
      · exact law.beginExchange e
    case h_8 => exact law
    all_goals exact law.beginExchange _

/-- A claim on a link sets it Opening or Shutting as the Active job of that kind asks. -/
theorem State.linkJobLaw_of_claimed {j : Job} {x : JobContext} (hact : s.activeJob = some (j, x))
    (own : (j.kind = .openLink ∧ (s.link j.linkIndex).state = .opening) ∨
      (j.kind = .shut ∧ (s.link j.linkIndex).state = .shutting))
    (others : ∀ i, i ≠ j.linkIndex → (s.link i).AtRest) : s.LinkJobLaw := by
  intro i
  rw [State.jobHolds_eq hact, State.jobHolds_eq hact]
  by_cases hi : i = j.linkIndex
  · subst hi
    rcases own with ⟨hk, hs⟩ | ⟨hk, hs⟩ <;> simp [hk, hs]
  · have hn : ¬(j.linkIndex = i) := fun g => hi g.symm
    simp [hn, (others i hi).1, (others i hi).2]

theorem State.startOpen_linkJobLaw {j : Job} {x : JobContext} (hact : s.activeJob = some (j, x))
    (hk : j.kind = .openLink) (rest : s.LinksAtRest) : (s.startOpen j).LinkJobLaw := by
  unfold State.startOpen; split
  · exact State.endJobSince_linkJobLaw _ _ .keep hact fun k _ => rest k
  next t ht =>
    obtain ⟨-, -, -, rfl⟩ := State.openClaim_passed ht
    refine State.LinkJobLaw.startExchange ?_ _
    refine State.linkJobLaw_of_claimed (x := x) (by exact hact) (.inl ⟨hk, ?_⟩) fun i hi => ?_
    · change ((s.setLink j.linkIndex _).link j.linkIndex).state = _
      simp [Link.openWith]
    · change ((s.setLink j.linkIndex _).link i).AtRest
      rw [State.link_setLink_other _ _ _ _ hi]; exact rest i

theorem State.startShut_linkJobLaw {j : Job} {x : JobContext} (hact : s.activeJob = some (j, x)) (hk : j.kind = .shut)
    (rest : s.LinksAtRest) : (s.startShut j).LinkJobLaw := by
  unfold State.startShut; split
  · refine State.LinkJobLaw.startExchange ?_ _
    have hs : (s.setLink j.linkIndex { s.link j.linkIndex with state := .shutting, holder := none }).LinkJobLaw := by
      refine State.linkJobLaw_of_claimed (x := x) hact (.inr ⟨hk, by simp⟩) fun i hi => ?_
      rw [State.link_setLink_other _ _ _ _ hi]; exact rest i
    unfold State.shutOpenLink; simp only; split
    · exact hs.of_calm (State.stopChannel_calm _ _ _)
    · exact hs
  · have hact' : (s.mapActive fun y => { y with localClose := true }).activeJob = some (j, { x with localClose := true }) := by
      unfold State.activeJob at hact ⊢
      cases hj : s.jobs <;> cases hx : s.active <;> simp_all [State.mapActive, State.setActive]
    exact State.endJobSince_linkJobLaw _ _ _ hact' fun k _ => rest k
  · exact State.endJobSince_linkJobLaw _ _ .keep hact fun k _ => rest k

theorem State.LinkJobLaw.startJob (law : s.LinkJobLaw) (idle : s.active = none) : s.startJob.LinkJobLaw := by
  have rest : s.LinksAtRest := (State.linkJobLaw_iff_of_none (State.activeJob_of_active_none idle)).mp law
  unfold State.startJob; split
  · exact law
  next j js hjobs =>
    have hact (q : Sequencer) : (((s.reserve .job).setActive (some JobContext.fresh)).setSeq q).activeJob =
        some (j, JobContext.fresh) := by
      simp [State.activeJob, State.reserve, hjobs]
    have other (q : Sequencer) (ho : j.kind ≠ .openLink) (hs : j.kind ≠ .shut) :
        (((s.reserve .job).setActive (some JobContext.fresh)).setSeq q).LinkJobLaw :=
      (State.linkJobLaw_iff_of_other (hact q) ho hs).mpr rest
    simp only; split
    next hk => exact State.startOpen_linkJobLaw (hact _) hk rest
    next hk => exact State.startShut_linkJobLaw (hact _) hk rest
    next hk => exact (other _ (by simp [hk]) (by simp [hk])).of_calm (State.setBus_calm _ _)
    next ho hs _ => exact (other _ ho hs).startExchange false

theorem State.LinkJobLaw.mapActive (law : s.LinkJobLaw) (f : JobContext → JobContext) : (s.mapActive f).LinkJobLaw :=
  law.of_same (fun _ => .refl _) (fun _ => rfl) (by simp [State.mapActive])

theorem State.activeJob_mapActive {j : Job} {x : JobContext} (h : s.activeJob = some (j, x))
    (f : JobContext → JobContext) : (s.mapActive f).activeJob = some (j, f x) := by
  unfold State.activeJob at h ⊢
  cases hj : s.jobs <;> cases hx : s.active <;> simp_all [State.mapActive, State.setActive]

/-- A visit's record changes the census context alone. -/
theorem State.recordVisit_activeJob (e : Exchange) (o : ExchangeOutcome) {j : Job} {x : JobContext}
    (hact : s.activeJob = some (j, x)) : ∃ y, (s.recordVisit e o).activeJob = some (j, y) := by
  have ha : (s.reportStation e.station Station.censusError).activeJob = some (j, x) := hact
  unfold State.recordVisit; simp only; split <;> split
  · exact ⟨_, State.activeJob_mapActive ha _⟩
  · exact ⟨_, State.activeJob_mapActive hact _⟩
  · exact ⟨x, ha⟩
  · exact ⟨x, hact⟩

theorem State.LinkJobLaw.recordVisit (law : s.LinkJobLaw) (e : Exchange) (o : ExchangeOutcome) :
    (s.recordVisit e o).LinkJobLaw := by
  have hl := law.of_calm (s.reportStation_calm e.station Station.censusError)
  unfold State.recordVisit; simp only; split <;> split
  · exact hl.mapActive _
  · exact law.mapActive _
  · exact hl
  · exact law

theorem State.LinkJobLaw.jobOutcome (law : s.LinkJobLaw) (e : Exchange) (o : ExchangeOutcome) :
    (s.jobOutcome e o).LinkJobLaw := by
  unfold State.jobOutcome; split
  · exact law
  next j x hact =>
    have hl (y : JobContext) := law.setActive hact y
    have ha (y : JobContext) := State.activeJob_setActive hact y
    have ends (y : JobContext) (r : JobResult) (b : Bool) :
        ((s.setActive (some y)).endJob r (j.kind.cleanup b)).LinkJobLaw :=
      (hl y).endJob r (ha y) JobKind.cleanup_keep
    simp only; split
    next hk =>
      have hv := (hl (x.absorb e)).recordVisit e o
      obtain ⟨y, hy⟩ := State.recordVisit_activeJob e o (ha (x.absorb e))
      unfold State.endCensusVisit; simp only; split
      · exact hv.endJob .done hy fun _ => by simp [hk]
      · exact hv.mapActive _
    next =>
      split
      · unfold State.busyOutcome; simp only; split
        · exact ends _ _ _
        · split
          · exact (hl _).startExchange false
          · exact (hl _).of_calm (State.setSeq_calm _ _)
      · exact ends _ _ _
      · split
        next hk =>
          unfold State.dataComplete; split
          · exact (hl _).endJob _ (ha _) fun _ => by rcases hk with hk | hk <;> simp [hk]
          · exact hl _
        next => exact ends _ _ _
      · exact ends _ _ _

/-! ### The operations of the wire -/

/-- The exchange, the bus unit, the reports and the ring's bytes take no part in the law. -/
theorem State.LinkJobLaw.of_busView (law : s.LinkJobLaw) (links : ∀ i, (s.link i).Kept (t.link i))
    (jobs : t.busView.jobs = s.busView.jobs) (active : t.busView.active = s.busView.active) : t.LinkJobLaw :=
  law.of_same links (fun _ => congrArg List.head? jobs) active

theorem State.LinkJobLaw.endVisit (law : s.LinkJobLaw) (o : ExchangeOutcome) : (s.endVisit o).LinkJobLaw :=
  law.of_calm (s.endVisit_calm o)

theorem State.LinkJobLaw.endExchange (law : s.LinkJobLaw) (e : Exchange) (o : ExchangeOutcome) :
    (s.endExchange e o).LinkJobLaw := by
  have hf : (s.setExchange none).busToFree.LinkJobLaw := law.of_same (fun _ => .refl _) (fun _ => rfl) rfl
  unfold State.endExchange; simp only; split
  · exact hf.endVisit o
  · exact hf.jobOutcome e o
  · exact hf

theorem State.LinkJobLaw.endCut (law : s.LinkJobLaw) (e : Exchange) : (s.endCut e).LinkJobLaw := by
  have hf : (s.setExchange none).busToFree.LinkJobLaw := law.of_same (fun _ => .refl _) (fun _ => rfl) rfl
  unfold State.endCut; simp only; split
  · exact hf.endVisit _
  · exact hf.jobOutcome e _
  · split
    · exact hf.of_calm (State.setSeq_calm _ _)
    next j x hact =>
      split
      next hk =>
        obtain ⟨y, hy⟩ := State.recordVisit_activeJob e (e.outcome.getD .cutByRequest) hact
        exact (hf.recordVisit e _).endJob _ hy fun _ => by simp [hk]
      next => exact hf.jobOutcome e _
  · exact hf

/-- A failure of the exchange reports to the station table and starts a CUT. -/
theorem State.LinkJobLaw.failExchange (law : s.LinkJobLaw) (e : Exchange) (o : ExchangeOutcome) :
    (s.failExchange e o).LinkJobLaw := by
  have hr : (s.failureReports e o).LinkJobLaw :=
    law.of_busView (fun i => by rw [← State.tables_link (s.failureReports e o), State.tables_failureReports]; exact .refl _)
      (by simp) (by simp)
  have hb := hr.of_calm (State.putBackByte_calm _ e)
  have hx : ((((s.failureReports e o).putBackByte e).setExchange (some (e.failed o))).startCut).LinkJobLaw :=
    hb.of_same (fun _ => .refl _) (fun _ => rfl) rfl
  unfold State.failExchange State.cutForJob; split
  · exact hx.of_calm (State.setSeq_calm _ _)
  · exact hx

theorem State.LinkJobLaw.sendPutByte (law : s.LinkJobLaw) (e : Exchange) : (s.sendPutByte e).LinkJobLaw := by
  unfold State.sendPutByte; split
  · exact law
  · split
    · exact law
    · exact (law.of_calm (s.mapJobLink_calm Link.putInFlight_edited)).of_same (fun _ => .refl _) (fun _ => rfl) rfl

theorem State.LinkJobLaw.goodPhase (law : s.LinkJobLaw) (e : Exchange) : (s.goodPhase e).LinkJobLaw := by
  unfold State.goodPhase; split
  · exact law.of_calm (s.reportStation_calm _ _)
  · exact law

theorem State.LinkJobLaw.reportPace (law : s.LinkJobLaw) (i : StationIndex) (f : Station → Station) :
    (s.reportPace i f).LinkJobLaw := by
  have hr := law.of_calm (s.reportStation_calm i f)
  unfold State.reportPace; simp only; split
  · exact hr.mapActive _
  · exact hr

theorem State.LinkJobLaw.takeHandback (law : s.LinkJobLaw) (e : Exchange) : (s.takeHandback e).LinkJobLaw := by
  unfold State.takeHandback; split
  · exact law
  · split
    · exact law.endExchange e _
    · split
      · exact law.sendPutByte e
      · split
        · exact law.endExchange e _
        · exact law.of_same (fun _ => .refl _) (fun _ => rfl) rfl
      · exact law.endExchange e _

theorem State.LinkJobLaw.takeAck (law : s.LinkJobLaw) (e : Exchange) : (s.takeAck e).LinkJobLaw := by
  have same (u : State) (hl : u.link = s.link) (hj : u.jobs = s.jobs) (ha : u.active = s.active) : u.LinkJobLaw :=
    law.of_same (fun i => by rw [hl]; exact .refl _) (fun _ => by rw [hj]) (by rw [ha])
  unfold State.takeAck; split
  · split <;> exact same _ rfl rfl rfl
  · split
    · have hs := (law.of_calm (s.mapJobLink_calm Link.putRemove_edited)).mapActive
        fun x => { x with msgEnd := x.msgEnd || s.bus.frame.mark }
      unfold State.putByteSent; simp only; split
      · exact (hs.goodPhase _).endExchange _ _
      · exact hs.sendPutByte _
    · unfold State.testSent; simp only; split
      · exact same _ rfl rfl rfl
      · split
        · exact (law.reportPace _ _).endExchange _ _
        · exact law.endExchange _ _
    · exact law

theorem State.LinkJobLaw.takeAnswer (law : s.LinkJobLaw) (e : Exchange) (a : Answer) : (s.takeAnswer e a).LinkJobLaw := by
  have hr := law.of_calm (s.reportStation_calm e.station (·.answerReport a))
  unfold State.takeAnswer; simp only; split
  · exact hr.failExchange _ _
  · split
    · exact hr.of_same (fun _ => .refl _) (fun _ => rfl) rfl
    · split <;> exact hr.of_same (fun _ => .refl _) (fun _ => rfl) rfl

/-- A TAKE's byte joins its ring and leaves the link's state as it was. -/
theorem State.LinkJobLaw.takeData (law : s.LinkJobLaw) (e : Exchange) (v : Byte) (m : Bool) :
    (s.takeData e v m).LinkJobLaw := by
  have hs : (s.mapJobLink fun l => l.takeAppend v m).LinkJobLaw := by
    unfold State.mapJobLink; split
    next j x hact =>
      intro i
      have hstate : ((s.setLink j.linkIndex ((s.link j.linkIndex).takeAppend v m)).link i).state = (s.link i).state := by
        by_cases hi : i = j.linkIndex
        · subst hi; simp [Link.takeAppend, Link.append]
        · rw [State.link_setLink_other _ _ _ _ hi]
      rw [hstate]
      exact law i
    next => exact law
  unfold State.takeData; simp only; split
  · exact (hs.goodPhase _).of_same (fun _ => .refl _) (fun _ => rfl) rfl
  · exact hs.of_same (fun _ => .refl _) (fun _ => rfl) rfl

theorem State.LinkJobLaw.takeFrame (law : s.LinkJobLaw) (e : Exchange) (v : Byte) (m : Bool) :
    (s.takeFrame e v m).LinkJobLaw := by
  unfold State.takeFrame; split
  · have hc := (s.reportStation_calm e.station (·.statusReport v)).trans (State.recordClaim_calm _ e v)
    exact (law.of_calm hc).of_same (fun _ => .refl _) (fun _ => rfl) rfl
  · exact (law.takeData e v m).of_calm (State.nextMove_calm _)
  · exact law

/-! ### Resets, and every event -/

theorem State.softResetBlocks_linksAtRest (s : State) : s.softResetBlocks.LinksAtRest := by
  intro i
  have hl : s.softResetBlocks.link i = if (s.link i).bound then (s.link i).closed else { s.link i with holder := none } := by
    rw [State.softResetBlocks_eq]
    exact mapTable_getElem _ _ _ _
  rw [hl]
  cases hb : (s.link i).bound with
  | true => simp [Link.AtRest, Link.closed]
  | false =>
    have hs : (s.link i).state = .closed := by simpa [Link.bound] using hb
    simp [Link.AtRest, hs]

/-- Every operation keeps the law of Opening and Shutting. -/
theorem State.linkJobLaw_kept : KeptByEvents State.LinkJobLaw where
  calm law h := law.of_calm h
  atRest {s t} law hs ht _ tables _ := by
    rw [State.linkJobLaw_iff_of_none (State.activeJob_of_active_none hs)] at law
    rw [State.linkJobLaw_iff_of_none (State.activeJob_of_active_none ht)]
    exact fun i => by rw [show t.link = s.link from congrArg Tables.link tables]; exact law i
  queue law hhead _ := law.of_same (fun _ => .refl _) hhead rfl
  startJob law idle := law.startJob (by simpa using idle.active)
  startExchange later law _ := law.startExchange later
  takeAck law _ _ := law.takeAck _
  takeAnswer a law _ _ := law.takeAnswer _ a
  takeFrame v m law _ _ := law.takeFrame _ v m
  takeHandback law _ _ := law.takeHandback _
  failExchange o law _ := law.failExchange _ o
  answerTimeout law _ _ := law.endExchange _ _
  endCut law _ _ _ := law.endCut _
  cutExchange {s e} law _ := (law.of_calm (s.putBackByte_calm e)).of_same (fun _ => .refl _) (fun _ => rfl) rfl
  abortNow {s} law rest := by
    obtain ⟨j, x, -, -, -, hact⟩ := s.activeJob_of_active rest.active rest.head
    simp only [State.abortNow, hact]
    exact law.endJob _ hact JobKind.cleanup_keep
  endBusReset {s} n law rest reset := by
    obtain ⟨j, x, js, hjobs, -, hact⟩ := s.activeJob_of_active rest.active rest.head
    have hk : j.kind = .busReset := by simpa [BusView.headIsBusReset, hjobs] using reset
    refine State.endJobSince_linkJobLaw n .done .keep hact fun k _ => ?_
    exact (State.linkJobLaw_iff_of_other hact (by simp [hk]) (by simp [hk])).mp law k
  softResetBlocks {s} _ := by
    refine (State.linkJobLaw_iff_of_none (State.activeJob_of_active_none ?_)).mpr s.softResetBlocks_linksAtRest
    exact congrArg State.active s.softResetBlocks_eq
  pinReset s := by
    refine (State.linkJobLaw_iff_of_none rfl).mpr fun i => ?_
    simp [Link.AtRest, State.link, State.pinReset, State.reset, Link.reset]

/-- An Active OPEN job's link is not Closed. -/
theorem State.LinkJobLaw.openBound (law : s.LinkJobLaw) : s.OpenBound True := by
  intro _ j x hact hk
  have hs : (s.link j.linkIndex).state = .opening := (law j.linkIndex).1.mpr (by simp [State.jobHolds_eq hact, hk])
  simp [Link.bound, hs]

end LinkJob
end Sys2Proof.Machine

section
open Sys2Proof.Machine

/-- Settles O54: every operation of the sequencer keeps Opening and Shutting with their jobs, so that an OPEN job's link is
bound, and then each change of the tables keeps bound endpoints apart. -/
theorem stepKeepsEndpointLaw : Obligations.StepKeepsEndpointLaw := by
  intro s t hq hb hl he ht
  have law := s.busView_lawful_iff.mpr ⟨hq, hb⟩
  refine ⟨State.linkJobLaw_kept.step hl law ht, ?_⟩
  have hreach : State.Reaches False True s t := step_reaches (fun h => h.elim) hl.openBound ht
  rw [State.endpointLaw_iff] at he ⊢
  exact hreach.head_induction_on (motive := fun r _ => r.EndpointLaw → t.tables.EndpointLaw) id
    (fun hstep _ ih hr => ih (hstep.endpointLaw hr)) he

end


/-! # The limit of a PUT or TAKE, and the room of a TAKE (R70, R76, R79, R102)

A job moves no more bytes than its limit: each exchange is begun with a length within what is left, and counts no more
frames than its length. A TAKE's exchange is begun with a length within the free space, which then only grows until its bytes
join the ring. -/

namespace Sys2Proof.Machine

/-! ### The laws as propositions -/

/-- A PUT or a TAKE (R98). -/
def JobKind.MovesData (k : JobKind) : Prop := k = .put ∨ k = .take

/-- The exchange of an Active PUT or TAKE keeps to its length, and its length to what is left of the limit. -/
structure Exchange.WithinLimit (e : Exchange) (j : Job) (x : JobContext) : Prop where
  kind : (j.kind = .put ∧ e.kind = .put) ∨ (j.kind = .take ∧ e.kind = .take)
  accepted : e.accepted = true ∨ (e.framesDone = 0 ∧ e.phase ≠ .inbound ∧ e.phase ≠ .outbound)
  phase : e.framesDone = 0 ∨ e.phase = .inbound ∨ e.phase = .outbound ∨ (e.phase = .handback ∧ e.kind = .take)
  done : e.framesDone ≤ e.length.toNat
  more : (e.phase = .handback ∧ e.kind = .take) ∨ e.framesDone < e.length.toNat
  left : x.bytesMoved < j.limit.toNat
  fits : x.bytesMoved + e.length.toNat ≤ j.limit.toNat

/-- A TAKE's exchange that may still receive frames has room for them in its link (R76). -/
structure Exchange.HasRoom (e : Exchange) (j : Job) (l : Link) : Prop where
  kind : j.kind = .take
  dir : l.dir = .input
  more : e.framesDone < e.length.toNat
  space : l.count + (e.length.toNat - e.framesDone) ≤ l.capacity
  marks : l.marks < Config.markLimit

/-- Every PUT and TAKE in the queue has a limit of 1 or more (R85). -/
def State.LimitsPosted (s : State) : Prop := ∀ j ∈ s.jobs, j.kind.MovesData → 1 ≤ j.limit.toNat

/-- The Active PUT or TAKE has bytes left to move, and its exchange, unless it is in Cut, keeps to them. -/
def State.LimitKept (s : State) : Prop :=
  ∀ j x, s.activeJob = some (j, x) → j.kind.MovesData →
    (s.exchange = none → x.bytesMoved < j.limit.toNat) ∧
      ∀ e, s.exchange = some e → e.phase = .cut ∨ e.WithinLimit j x

/-- The phases in which a TAKE may still receive frames. -/
def Phase.Receives (p : Phase) : Prop := p = .header ∨ p = .answer ∨ p = .inbound

/-- A TAKE exchange that may still receive frames fits the link of its job. -/
def State.RoomKept (s : State) : Prop :=
  ∀ e, s.exchange = some e → e.kind = .take → e.phase.Receives →
    ∃ j x, s.activeJob = some (j, x) ∧ e.HasRoom j (s.link j.linkIndex)

theorem Exchange.framesFit_iff (e : Exchange) : e.framesFit = true ↔
    (e.accepted = true ∨ (e.framesDone = 0 ∧ e.phase ≠ .inbound ∧ e.phase ≠ .outbound)) ∧
      (e.framesDone = 0 ∨ e.phase = .inbound ∨ e.phase = .outbound ∨ (e.phase = .handback ∧ e.kind = .take)) := by
  simp [Exchange.framesFit, Exchange.accepted_eq, and_assoc, or_assoc]

theorem State.limitFits_iff (s : State) : s.limitFits = true ↔ s.LimitKept := by
  unfold State.limitFits State.LimitKept
  cases hact : s.activeJob with
  | none => simp
  | some a =>
    obtain ⟨j, x⟩ := a
    by_cases hk : j.kind.MovesData
    · have hb : (j.kind == .put || j.kind == .take) = true := by simpa [JobKind.MovesData] using hk
      simp only [hb, if_true, Option.some.injEq, Prod.mk.injEq, and_imp]
      cases he : s.exchange with
      | none =>
        simp only [decide_eq_true_eq]
        exact ⟨by rintro h _ _ rfl rfl -; exact ⟨fun _ => h, by simp⟩, fun h => (h j x rfl rfl hk).1 trivial⟩
      | some e =>
        have hkind : (e.kind = if j.kind = .put then .put else .take) ↔
            (j.kind = .put ∧ e.kind = .put) ∨ (j.kind = .take ∧ e.kind = .take) := by
          rcases hk with hk | hk <;> simp [hk]
        have hw : e.WithinLimit j x ↔
            ((j.kind = .put ∧ e.kind = .put) ∨ (j.kind = .take ∧ e.kind = .take)) ∧ e.framesFit = true ∧
              e.framesDone ≤ e.length.toNat ∧ ((e.phase = .handback ∧ e.kind = .take) ∨ e.framesDone < e.length.toNat) ∧
              x.bytesMoved < j.limit.toNat ∧ x.bytesMoved + e.length.toNat ≤ j.limit.toNat := by
          rw [Exchange.framesFit_iff]
          exact ⟨fun ⟨a, b, c, d, e, f, g⟩ => ⟨a, ⟨b, c⟩, d, e, f, g⟩, fun ⟨a, ⟨b, c⟩, d, e, f, g⟩ => ⟨a, b, c, d, e, f, g⟩⟩
        simp only [Bool.or_eq_true, Bool.and_eq_true, beq_iff_eq, decide_eq_true_eq, hkind, Option.some.injEq,
          reduceCtorEq, false_implies, true_and]
        constructor
        · rintro h _ _ rfl rfl - _ rfl
          exact h.imp_right fun h => hw.mpr (by simpa only [and_assoc] using h)
        · intro h
          exact (h j x rfl rfl hk e rfl).imp_right fun h => by simpa only [and_assoc] using hw.mp h
    · have hb : (j.kind == .put || j.kind == .take) = false := by simpa [JobKind.MovesData, not_or] using hk
      simp only [hb, Bool.false_eq_true, if_false, true_iff, Option.some.injEq, Prod.mk.injEq, and_imp]
      rintro _ _ rfl rfl h
      exact absurd h hk

theorem State.takeFits_iff (s : State) : s.takeFits = true ↔ s.RoomKept := by
  unfold State.takeFits State.RoomKept
  cases he : s.exchange with
  | none => simp
  | some e =>
    by_cases hk : e.kind = .take ∧ e.phase.Receives
    · have hb : (e.kind == .take && (e.phase == .header || e.phase == .answer || e.phase == .inbound)) = true := by
        simpa [Phase.Receives, or_assoc] using hk
      simp only [hb, if_true]
      cases hact : s.activeJob with
      | none => simpa using hk
      | some a =>
        obtain ⟨j, x⟩ := a
        have hr : e.HasRoom j (s.link j.linkIndex) ↔ j.kind = .take ∧ (s.link j.linkIndex).dir = .input ∧
            e.framesDone < e.length.toNat ∧
            (s.link j.linkIndex).count + (e.length.toNat - e.framesDone) ≤ (s.link j.linkIndex).capacity ∧
            (s.link j.linkIndex).marks < Config.markLimit :=
          ⟨fun ⟨a, b, c, d, e⟩ => ⟨a, b, c, d, e⟩, fun ⟨a, b, c, d, e⟩ => ⟨a, b, c, d, e⟩⟩
        simp only [Bool.and_eq_true, beq_iff_eq, decide_eq_true_eq, Option.some.injEq, Prod.mk.injEq]
        constructor
        · rintro h _ rfl - -
          exact ⟨j, x, ⟨rfl, rfl⟩, hr.mpr (by simpa only [and_assoc] using h)⟩
        · intro h
          obtain ⟨_, _, ⟨rfl, rfl⟩, h⟩ := h e rfl hk.1 hk.2
          simpa only [and_assoc] using hr.mp h
    · have hb : (e.kind == .take && (e.phase == .header || e.phase == .answer || e.phase == .inbound)) = false := by
        rw [← Bool.not_eq_true]
        simpa [Phase.Receives, or_assoc] using hk
      simp only [hb, Bool.false_eq_true, if_false, true_iff, Option.some.injEq]
      rintro _ rfl h1 h2
      exact absurd ⟨h1, h2⟩ hk

/-- The laws of the limit and of a TAKE's room together. -/
structure State.DataLaw (s : State) : Prop where
  posted : s.LimitsPosted
  limit : s.LimitKept
  room : s.RoomKept

theorem State.dataLaw_iff (s : State) : s.DataLaw ↔ s.LimitLaw ∧ s.takeFits = true := by
  rw [s.takeFits_iff]
  exact ⟨fun ⟨p, l, r⟩ => ⟨⟨p, s.limitFits_iff.mpr l⟩, r⟩, fun ⟨⟨p, l⟩, r⟩ => ⟨p, s.limitFits_iff.mp l, r⟩⟩

section Data
variable {s t : State}

/-! ### States that decide a law by themselves -/

/-- With no Active job, and no TAKE exchange, the laws speak of the queue alone. -/
theorem State.DataLaw.of_no_job (posted : s.LimitsPosted) (ha : s.active = none)
    (hx : ∀ e, s.exchange = some e → e.kind ≠ .take ∨ ¬e.phase.Receives) : s.DataLaw where
  posted := posted
  limit j x hact := by simp [State.activeJob_of_active_none ha] at hact
  room e he hk hp := ((hx e he).elim (absurd hk) (absurd hp))

/-- With no exchange, the laws speak of the queue and of the bytes left to move. -/
theorem State.DataLaw.of_no_exchange (posted : s.LimitsPosted) (hx : s.exchange = none)
    (left : ∀ j x, s.activeJob = some (j, x) → j.kind.MovesData → x.bytesMoved < j.limit.toNat) : s.DataLaw where
  posted := posted
  limit j x hact hk := ⟨fun _ => left j x hact hk, by simp [hx]⟩
  room e he := by simp [hx] at he

/-- With an exchange in Cut, the laws speak of the queue alone. -/
theorem State.DataLaw.of_cut (posted : s.LimitsPosted) {e : Exchange} (he : s.exchange = some e) (hp : e.phase = .cut) :
    s.DataLaw where
  posted := posted
  limit j x _ _ := ⟨by simp [he], fun f hf => .inl (by rw [he] at hf; exact Option.some.inj hf ▸ hp)⟩
  room f hf _ hr := by
    rw [he] at hf
    obtain rfl := Option.some.inj hf
    simp [Phase.Receives, hp] at hr

/-- The exchange in progress, with what the laws ask of it. -/
theorem State.DataLaw.of_exchange (posted : s.LimitsPosted) {e : Exchange} (he : s.exchange = some e)
    (limit : ∀ j x, s.activeJob = some (j, x) → j.kind.MovesData → e.WithinLimit j x)
    (room : e.kind = .take → e.phase.Receives →
      ∃ j x, s.activeJob = some (j, x) ∧ e.HasRoom j (s.link j.linkIndex)) : s.DataLaw where
  posted := posted
  limit j x hact hk := ⟨by simp [he], fun f hf => .inr (by rw [he] at hf; exact Option.some.inj hf ▸ limit j x hact hk)⟩
  room f hf := by
    rw [he] at hf
    obtain rfl := Option.some.inj hf
    exact room

theorem Exchange.HasRoom.of_kept {e : Exchange} {j : Job} {l l' : Link} (h : e.HasRoom j l) (hk : l.Kept l') :
    e.HasRoom j l' where
  kind := h.kind
  dir := hk.dir.trans h.dir
  more := h.more
  space := by
    have hc : l'.capacity = l.capacity := by simp [Link.capacity, hk.pages]
    have := hk.count h.dir
    have := h.space
    omega
  marks := (hk.marks h.dir).trans_lt h.marks

/-- Contexts with the same bytes moved are alike to the laws. -/
theorem State.DataLaw.of_same (h : s.DataLaw) (jobs : t.jobs = s.jobs) (exchange : t.exchange = s.exchange)
    (active : ∀ j y, t.activeJob = some (j, y) → ∃ x, s.activeJob = some (j, x) ∧ y.bytesMoved = x.bytesMoved)
    (active' : ∀ j x, s.activeJob = some (j, x) → ∃ y, t.activeJob = some (j, y))
    (links : ∀ i, (s.link i).Kept (t.link i)) : t.DataLaw where
  posted j hj := h.posted j (jobs ▸ hj)
  limit j y hy hk := by
    obtain ⟨x, hx, hm⟩ := active j y hy
    obtain ⟨left, within⟩ := h.limit j x hx hk
    rw [exchange, hm]
    refine ⟨left, fun e he => (within e he).imp_right fun ⟨a, b, c, d, e, f, g⟩ => ⟨a, b, c, d, e, hm ▸ f, hm ▸ g⟩⟩
  room e he hk hp := by
    obtain ⟨j, x, hx, hr⟩ := h.room e (exchange ▸ he) hk hp
    obtain ⟨y, hy⟩ := active' j x hx
    exact ⟨j, y, hy, hr.of_kept (links _)⟩

theorem State.DataLaw.of_calm (h : s.DataLaw) (hc : s.Calm t) : t.DataLaw := by
  have hact : t.activeJob = s.activeJob := by unfold State.activeJob; rw [hc.jobs, hc.active]
  exact h.of_same hc.jobs hc.exchange (fun j y hy => ⟨y, hact ▸ hy, rfl⟩) (fun j x hx => ⟨x, hact ▸ hx⟩) hc.kept

theorem State.DataLaw.mapActive (h : s.DataLaw) (f : JobContext → JobContext)
    (hf : ∀ x, (f x).bytesMoved = x.bytesMoved) : (s.mapActive f).DataLaw := by
  refine h.of_same rfl rfl (fun j y hy => ?_) (fun j x hx => ⟨_, State.activeJob_mapActive hx f⟩) fun _ => .refl _
  cases hact : s.activeJob with
  | none =>
    unfold State.activeJob at hy hact
    cases hj : s.jobs <;> cases hx : s.active <;> simp_all [State.mapActive]
  | some a =>
    have := (State.activeJob_mapActive (j := a.1) (x := a.2) hact f).symm.trans hy
    obtain ⟨rfl, rfl⟩ : a.1 = j ∧ f a.2 = y := by simpa using this
    exact ⟨a.2, rfl, hf _⟩

/-! ### The end of a job and the start of an exchange -/

theorem State.leaveQueue_jobs (s : State) : s.leaveQueue.jobs = s.jobs.tail := by
  have := congrArg BusView.jobs s.busView_leaveQueue
  exact this

theorem State.endJobSince_dataLaw (posted : s.LimitsPosted) (n : Nat) (r : JobResult) (c : Cleanup) {j : Job}
    {x : JobContext} (hact : s.activeJob = some (j, x)) : (s.endJobSince n r c).DataLaw := by
  simp only [State.endJobSince, hact]
  refine .of_no_job (fun k hk => ?_) (State.leaveQueue_active _) (by simp [State.leaveQueue, State.setSeqState])
  rw [State.leaveQueue_jobs] at hk
  have hjobs (m : Nat) : (((s.cleanUp j.linkIndex c).1.postAmong m .job (j.event x r (s.cleanUp j.linkIndex c).2)).busView).jobs =
      s.busView.jobs := by
    rw [State.busView_postAmong, State.busView_cleanUp]
  have hmem := List.mem_of_mem_tail hk
  rw [show State.jobs _ = s.jobs from hjobs _] at hmem
  exact posted k hmem

theorem State.endJob_dataLaw (posted : s.LimitsPosted) (r : JobResult) (c : Cleanup) {j : Job} {x : JobContext}
    (hact : s.activeJob = some (j, x)) : (s.endJob r c).DataLaw :=
  State.endJobSince_dataLaw posted _ r c hact

/-- An exchange of a length from 1 to what is left of the limit. -/
theorem Exchange.fresh_withinLimit {j : Job} {x : JobContext} {k : ExchangeKind} {st ch d p} {n : Nat}
    (kind : (j.kind = .put ∧ k = .put) ∨ (j.kind = .take ∧ k = .take)) (pos : 1 ≤ n) (small : n ≤ 255)
    (left : n ≤ j.limit.toNat - x.bytesMoved) : (Exchange.fresh k st ch d p (BitVec.ofNat 8 n)).WithinLimit j x := by
  have hn : (BitVec.ofNat 8 n).toNat = n := by rw [BitVec.toNat_ofNat]; omega
  refine ⟨kind, .inr ⟨rfl, by simp [Exchange.fresh], by simp [Exchange.fresh]⟩, .inl rfl, Nat.zero_le _, .inr ?_, ?_, ?_⟩
  · exact hn.symm ▸ pos
  · omega
  · change _ + (BitVec.ofNat 8 n).toNat ≤ _
    omega

theorem Link.markDistance_pos {l : Link} {n : Nat} (h : l.markDistance = some n) : 1 ≤ n := by
  unfold Link.markDistance at h
  cases hf : l.ring.findIdx? (·.marked) <;> simp [hf] at h
  omega

/-- The length of a PUT exchange is at least 1, and within 255 and what is left (R102). -/
theorem Link.putLength_bounds (l : Link) (left : Nat) (hc : l.count ≠ 0) (hl : 1 ≤ left) :
    1 ≤ l.putLength left ∧ l.putLength left ≤ 255 ∧ l.putLength left ≤ left := by
  have hd : 1 ≤ l.markDistance.getD l.count := by
    cases h : l.markDistance with
    | none => exact Nat.one_le_iff_ne_zero.mpr hc
    | some n => exact Link.markDistance_pos h
  unfold Link.putLength
  omega

/-- What the data claim of a TAKE that passes has found (R79). -/
theorem Link.takeClaim_passed {l : Link} (h : l.takeClaim = none) :
    l.dir = .input ∧ l.marks < Config.markLimit ∧ l.space ≠ 0 := by
  unfold Link.takeClaim at h
  repeat' (split at h; · cases h)
  refine ⟨?_, by omega, by assumption⟩
  by_contra hd
  exact absurd hd (by assumption)

theorem State.startPut_dataLaw (h : s.DataLaw) (hx : s.exchange = none) {j : Job} {x : JobContext}
    (hact : s.activeJob = some (j, x)) (hk : j.kind = .put) : (s.startPut j x).DataLaw := by
  have left := (h.limit j x hact (.inl hk)).1 hx
  unfold State.startPut; simp only; split
  · exact State.endJob_dataLaw h.posted _ _ hact
  · split
    · exact State.endJob_dataLaw h.posted _ _ hact
    next hc =>
      obtain ⟨pos, small, bound⟩ := Link.putLength_bounds (s.link j.linkIndex) (j.limit.toNat - x.bytesMoved) hc (by omega)
      refine .of_exchange h.posted rfl (fun j' x' hact' _ => ?_) (by simp [State.dataExchange, Exchange.fresh])
      obtain ⟨rfl, rfl⟩ : j = j' ∧ x = x' := by simpa using hact.symm.trans hact'
      exact Exchange.fresh_withinLimit (.inl ⟨hk, rfl⟩) pos small bound

theorem State.startTake_dataLaw (h : s.DataLaw) (hx : s.exchange = none) (later : Bool) {j : Job} {x : JobContext}
    (hact : s.activeJob = some (j, x)) (hk : j.kind = .take) : (s.startTake j x later).DataLaw := by
  have left := (h.limit j x hact (.inr hk)).1 hx
  unfold State.startTake; simp only; split
  · exact State.endJob_dataLaw h.posted _ _ hact
  next hclaim =>
    obtain ⟨dir, marks, space⟩ := Link.takeClaim_passed hclaim
    have bounds : 1 ≤ (s.link j.linkIndex).takeLength (j.limit.toNat - x.bytesMoved) ∧
        (s.link j.linkIndex).takeLength (j.limit.toNat - x.bytesMoved) ≤ 255 ∧
        (s.link j.linkIndex).takeLength (j.limit.toNat - x.bytesMoved) ≤ j.limit.toNat - x.bytesMoved ∧
        (s.link j.linkIndex).takeLength (j.limit.toNat - x.bytesMoved) ≤ (s.link j.linkIndex).space := by
      unfold Link.takeLength; omega
    obtain ⟨pos, small, bound, fits⟩ := bounds
    refine .of_exchange h.posted rfl (fun j' x' hact' _ => ?_) fun _ _ => ⟨j, x, hact, hk, dir, ?_, ?_, marks⟩
    · obtain ⟨rfl, rfl⟩ : j = j' ∧ x = x' := by simpa using hact.symm.trans hact'
      exact Exchange.fresh_withinLimit (.inr ⟨hk, rfl⟩) pos small bound
    all_goals
      simp only [State.dataExchange, Exchange.fresh, BitVec.toNat_ofNat]
      unfold Link.space at space fits
    · omega
    · change (s.link j.linkIndex).count + _ ≤ (s.link j.linkIndex).capacity
      omega

/-- An exchange of a job that is no PUT and no TAKE begins. -/
theorem State.beginExchange_dataLaw (posted : s.LimitsPosted) {j : Job} {x : JobContext}
    (hact : s.activeJob = some (j, x)) (hk : ¬j.kind.MovesData) (e : Exchange) (he : e.kind ≠ .take) :
    (s.beginExchange e).DataLaw := by
  refine .of_exchange posted rfl (fun j' x' hact' hk' => ?_) fun h => absurd h he
  obtain ⟨rfl, rfl⟩ : j = j' ∧ x = x' := by simpa using hact.symm.trans hact'
  exact absurd hk' hk

theorem State.startExchange_dataLaw (h : s.DataLaw) (hx : s.exchange = none) (later : Bool) :
    (s.startExchange later).DataLaw := by
  unfold State.startExchange; split
  · exact h
  next j x hact =>
    split
    case h_3 hk => exact State.startPut_dataLaw h hx hact hk
    case h_4 hk => exact State.startTake_dataLaw h hx later hact hk
    case h_8 => exact h
    all_goals
      next hk =>
        exact State.beginExchange_dataLaw h.posted hact (by simp [JobKind.MovesData, hk]) _
          (by simp [endpointExchange, statusExchange, probeExchange, Exchange.fresh])

/-- With no exchange, the laws take no account of the links. -/
theorem State.DataLaw.of_links (h : s.DataLaw) (hx : s.exchange = none) (jobs : t.jobs = s.jobs)
    (active : t.active = s.active) (hx' : t.exchange = none) : t.DataLaw := by
  have hact : t.activeJob = s.activeJob := by unfold State.activeJob; rw [jobs, active]
  exact .of_no_exchange (fun j hj => h.posted j (jobs ▸ hj)) hx' fun j x hj hk => (h.limit j x (hact ▸ hj) hk).1 hx

theorem State.startOpen_dataLaw (h : s.DataLaw) (hx : s.exchange = none) {j : Job} {x : JobContext}
    (hact : s.activeJob = some (j, x)) : (s.startOpen j).DataLaw := by
  unfold State.startOpen; split
  · exact State.endJob_dataLaw h.posted _ _ hact
  next t ht =>
    obtain ⟨-, -, -, rfl⟩ := State.openClaim_passed ht
    refine State.startExchange_dataLaw ?_ (by exact hx) false
    exact h.of_links hx rfl rfl hx

theorem State.startShut_dataLaw (h : s.DataLaw) (hx : s.exchange = none) {j : Job} {x : JobContext}
    (hact : s.activeJob = some (j, x)) : (s.startShut j).DataLaw := by
  have shut (i : LinkIndex) : (s.shutOpenLink i).DataLaw ∧ (s.shutOpenLink i).exchange = none := by
    have hs : (s.setLink i { s.link i with state := .shutting, holder := none }).DataLaw := h.of_links hx rfl rfl hx
    unfold State.shutOpenLink; simp only; split
    next c _ =>
      have hstop := State.stopChannel_calm (s.setLink i { s.link i with state := .shutting, holder := none }) c .shut
      exact ⟨hs.of_calm hstop, hstop.exchange.trans hx⟩
    next => exact ⟨hs, hx⟩
  unfold State.startShut; split
  · exact State.startExchange_dataLaw (shut _).1 (shut _).2 false
  · exact State.endJob_dataLaw (h.mapActive (fun y => { y with localClose := true }) fun _ => rfl).posted _ _
      (State.activeJob_mapActive hact _)
  · exact State.endJob_dataLaw h.posted _ _ hact

theorem State.startJob_dataLaw (h : s.DataLaw) (idle : s.busView.AtIdle) : s.startJob.DataLaw := by
  have hx : s.exchange = none := idle.exchange
  unfold State.startJob; split
  · exact h
  next j js hjobs =>
    have hact (q : Sequencer) : (((s.reserve .job).setActive (some JobContext.fresh)).setSeq q).activeJob =
        some (j, JobContext.fresh) := by
      simp [State.activeJob, State.reserve, hjobs]
    have started (q : Sequencer) : (((s.reserve .job).setActive (some JobContext.fresh)).setSeq q).DataLaw := by
      refine .of_no_exchange h.posted hx fun j' x' hact' hk => ?_
      obtain ⟨rfl, rfl⟩ : j = j' ∧ JobContext.fresh = x' := by simpa using (hact q).symm.trans hact'
      exact h.posted j (by simp [hjobs]) hk
    simp only; split
    · exact State.startOpen_dataLaw (started _) hx (hact _)
    · exact State.startShut_dataLaw (started _) hx (hact _)
    · exact (started _).of_calm (State.setBus_calm _ _)
    · exact State.startExchange_dataLaw (started _) hx false

/-! ### The outcome of an exchange -/

/-- The bytes an exchange moved leave the job within its limit, and short of it after a BUSY. -/
def Exchange.CountFits (e : Exchange) (o : ExchangeOutcome) (j : Job) (x : JobContext) : Prop :=
  (o = .complete → x.bytesMoved + e.framesDone ≤ j.limit.toNat) ∧
    (o = .busy → x.bytesMoved + e.framesDone < j.limit.toNat)

theorem State.recordVisit_jobs_exchange (s : State) (e : Exchange) (o : ExchangeOutcome) :
    (s.recordVisit e o).jobs = s.jobs ∧ (s.recordVisit e o).exchange = s.exchange := by
  have hv := s.busView_recordVisit e o
  exact ⟨congrArg BusView.jobs hv, congrArg BusView.exchange hv⟩

theorem State.jobOutcome_dataLaw (posted : s.LimitsPosted) (hx : s.exchange = none) (e : Exchange) (o : ExchangeOutcome)
    (idle : s.activeJob = none → s.DataLaw)
    (counts : ∀ j x, s.activeJob = some (j, x) → j.kind.MovesData → e.CountFits o j x) : (s.jobOutcome e o).DataLaw := by
  unfold State.jobOutcome; split
  next hn => exact idle hn
  next j x hact =>
    have ha (y : JobContext) : (s.setActive (some y)).activeJob = some (j, y) := State.activeJob_setActive hact y
    have between (y : JobContext) (left : j.kind.MovesData → y.bytesMoved < j.limit.toNat) :
        (s.setActive (some y)).DataLaw := by
      refine .of_no_exchange posted hx fun j' y' hact' hk => ?_
      obtain ⟨rfl, rfl⟩ : j = j' ∧ y = y' := by simpa using (ha y).symm.trans hact'
      exact left hk
    have ends (y : JobContext) (r : JobResult) (c : Cleanup) : ((s.setActive (some y)).endJob r c).DataLaw :=
      State.endJob_dataLaw (s := s.setActive (some y)) posted r c (ha y)
    simp only; split
    next hk =>
      obtain ⟨y, hy⟩ := State.recordVisit_activeJob e o (ha (x.absorb e))
      obtain ⟨hjobs, hx'⟩ := State.recordVisit_jobs_exchange (s.setActive (some (x.absorb e))) e o
      have posted' : ((s.setActive (some (x.absorb e))).recordVisit e o).LimitsPosted := fun k hm => posted k (hjobs ▸ hm)
      unfold State.endCensusVisit; simp only; split
      · exact State.endJob_dataLaw posted' _ _ hy
      · refine .of_no_exchange posted' (hx'.trans hx) fun j' y' hact' hk' => ?_
        obtain ⟨rfl, -⟩ : j = j' ∧ _ = y' := by simpa using (State.activeJob_mapActive hy _).symm.trans hact'
        simp [JobKind.MovesData, hk] at hk'
    next =>
      split
      · have hl (y : JobContext) (hy : y.bytesMoved = x.bytesMoved + e.framesDone) := between y fun hk =>
          hy ▸ (counts j x hact hk).2 rfl
        unfold State.busyOutcome; simp only; split
        · exact ends _ _ _
        · split
          · exact State.startExchange_dataLaw (hl _ rfl) hx false
          · exact (hl _ rfl).of_calm (State.setSeq_calm _ _)
      · exact ends _ _ _
      · split
        next hk =>
          unfold State.dataComplete; split
          · exact ends _ _ _
          next hmore =>
            refine between _ fun _ => lt_of_le_of_ne ((counts j x hact hk).1 rfl) ?_
            simp only [Bool.or_eq_true, beq_iff_eq, not_or] at hmore
            exact hmore.2
        next => exact ends _ _ _
      · exact ends _ _ _

/-! ### The wire -/

/-- What the laws say of the exchange in progress. -/
theorem State.DataLaw.within (h : s.DataLaw) {e : Exchange} (hw : s.OnWire e) {j : Job} {x : JobContext}
    (hact : s.activeJob = some (j, x)) (hk : j.kind.MovesData) : e.WithinLimit j x :=
  ((h.limit j x hact hk).2 e hw.exchange).resolve_left hw.notCut

/-- The end of an exchange, whose count keeps to its job's limit. -/
theorem State.released_jobOutcome_dataLaw (h : s.DataLaw) (e : Exchange) (o : ExchangeOutcome)
    (counts : ∀ j x, s.activeJob = some (j, x) → j.kind.MovesData → e.CountFits o j x) :
    ((s.setExchange none).busToFree.jobOutcome e o).DataLaw := by
  refine State.jobOutcome_dataLaw (s := (s.setExchange none).busToFree) h.posted rfl e o (fun hn => ?_) counts
  refine .of_no_exchange h.posted rfl fun j x hact => ?_
  rw [hn] at hact; cases hact

/-- The exchange goes on in a new context of the same job, with no change to its link's ring. -/
theorem State.DataLaw.carry (h : s.DataLaw) {e e' : Exchange} (hw : s.OnWire e) (jobs : t.jobs = s.jobs)
    (active : t.activeJob = s.activeJob) (exchange : t.exchange = some e') (links : ∀ i, (s.link i).Kept (t.link i))
    (kind : e'.kind = e.kind) (length : e'.length = e.length) (done : e'.framesDone = e.framesDone)
    (limit : ∀ j x, e.WithinLimit j x → e'.WithinLimit j x) (room : e.kind = .take → e'.phase.Receives → e.phase.Receives) :
    t.DataLaw := by
  refine .of_exchange (fun j hj => h.posted j (jobs ▸ hj)) exchange (fun j x hact hk => ?_) fun hk hp => ?_
  · exact limit j x (h.within hw (active ▸ hact) hk)
  · obtain ⟨j, x, hact, hr⟩ := h.room e hw.exchange (kind ▸ hk) (room (kind ▸ hk) hp)
    have hr := hr.of_kept (links _)
    refine ⟨j, x, active ▸ hact, hr.kind, hr.dir, ?_, ?_, hr.marks⟩
    · rw [done, length]; exact hr.more
    · rw [done, length]; exact hr.space

end Data
end Sys2Proof.Machine


namespace Sys2Proof.Machine

section DataWire
variable {s t : State} {e : Exchange}

/-! ### The laws of the limit and of a TAKE's room across the wire -/

/-- Only a PUT's or a TAKE's exchange runs while a PUT or a TAKE is Active. -/
theorem Exchange.WithinLimit.movesData {j : Job} {x : JobContext} (h : e.WithinLimit j x) :
    e.kind = .put ∨ e.kind = .take := h.kind.imp (·.2) (·.2)

/-- No frame is counted before the data phase (R32, R35). -/
theorem Exchange.WithinLimit.none_done {j : Job} {x : JobContext} (h : e.WithinLimit j x)
    (hp : e.phase = .header ∨ e.phase = .answer) : e.framesDone = 0 := by
  rcases h.phase with h | h | h | ⟨h, -⟩
  · exact h
  all_goals rcases hp with hp | hp <;> simp [hp] at h

theorem State.DataLaw.failExchange (h : s.DataLaw) (o : ExchangeOutcome) : (s.failExchange e o).DataLaw := by
  have hjobs : (s.failExchange e o).jobs = s.jobs := by
    have hv : ((s.failureReports e o).putBackByte e).busView = s.busView := by simp
    unfold State.failExchange State.cutForJob; split <;> exact congrArg BusView.jobs hv
  refine .of_cut (fun j hj => h.posted j (hjobs ▸ hj)) (e := e.failed o) ?_ rfl
  unfold State.failExchange State.cutForJob; split <;> rfl

theorem State.DataLaw.cutExchange (h : s.DataLaw) : (s.cutExchange e).DataLaw := by
  have hjobs : (s.cutExchange e).jobs = s.jobs := congrArg BusView.jobs (s.busView_putBackByte e)
  exact .of_cut (fun j hj => h.posted j (hjobs ▸ hj)) (e := e.cut) rfl rfl

theorem State.DataLaw.setExchange_other (h : s.DataLaw) (hw : s.OnWire e) (hk : e.kind ≠ .put ∧ e.kind ≠ .take)
    {e' : Exchange} (kind : e'.kind = e.kind) (jobs : t.jobs = s.jobs) (active : t.activeJob = s.activeJob)
    (exchange : t.exchange = some e') : t.DataLaw := by
  refine .of_exchange (fun j hj => h.posted j (jobs ▸ hj)) exchange (fun j x hact hm => ?_) fun hk' => ?_
  · exact ((h.within hw (active ▸ hact) hm).movesData.elim hk.1 hk.2).elim
  · exact absurd (kind ▸ hk') hk.2

/-- The byte of a PUT goes in flight, and its exchange is in Outbound (R34). -/
theorem State.DataLaw.sendPutByte (h : s.DataLaw) (hw : s.OnWire e) {e' : Exchange} (hk : e.kind = .put)
    (kind : e'.kind = e.kind) (limit : ∀ j x, e.WithinLimit j x → ({ e' with phase := .outbound } : Exchange).WithinLimit j x) :
    (s.sendPutByte e').DataLaw := by
  unfold State.sendPutByte; split
  · exact h
  · split
    · exact h
    · have hc := s.mapJobLink_calm Link.putInFlight_edited
      have hact : (s.mapJobLink Link.putInFlight).activeJob = s.activeJob := by
        unfold State.activeJob; rw [hc.jobs, hc.active]
      refine .of_exchange (e := { e' with phase := .outbound }) (fun j hj => h.posted j (hc.jobs ▸ hj)) rfl
        (fun j x hj hm => limit j x (h.within hw (hact ▸ hj) hm)) fun ht => ?_
      exact absurd (ht.symm.trans (kind.trans hk)) (by simp)

/-- The end of an exchange with no CUT: a scan's visit takes no part in the laws (section 2.6). -/
theorem State.DataLaw.endExchange (h : s.DataLaw) (hw : s.OnWire e) (e' : Exchange) (o : ExchangeOutcome)
    (running : ((s.setExchange none).busToFree.jobOutcome e' o).DataLaw) : (s.endExchange e' o).DataLaw := by
  unfold State.endExchange; simp only
  rcases (hw.law.seq.carrying hw.exchange hw.notCut).1 with hq | hq
  · have hq' : ((s.setExchange none).busToFree).seq.state = .running := hq
    simpa only [hq'] using running
  · have hq' : ((s.setExchange none).busToFree).seq.state = .scanning := hq
    have ha : s.active = none := by simpa using (hw.law.betweenVisits hq).active
    have hf : (s.setExchange none).busToFree.DataLaw := .of_no_job h.posted ha (by simp [State.busToFree])
    simp only [hq']
    exact hf.of_calm (State.endVisit_calm _ o)

theorem State.DataLaw.endExchange_other (h : s.DataLaw) (hw : s.OnWire e) (hk : e.kind ≠ .put ∧ e.kind ≠ .take)
    (e' : Exchange) (o : ExchangeOutcome) : (s.endExchange e' o).DataLaw :=
  h.endExchange hw e' o <| State.released_jobOutcome_dataLaw h e' o fun _ _ hact hm =>
    ((h.within hw hact hm).movesData.elim hk.1 hk.2).elim

theorem State.DataLaw.takeHandback (h : s.DataLaw) (hw : s.OnWire e) : (s.takeHandback e).DataLaw := by
  unfold State.takeHandback; split
  · exact h
  next a ha =>
    have hacc : e.accepted = a.accepts := by simp [Exchange.accepted, ha]
    split
    next hn =>
      refine h.endExchange hw e _ (State.released_jobOutcome_dataLaw h e _ fun j x hact hm => ?_)
      have hin := h.within hw hact hm
      have hzero : e.framesDone = 0 := (hin.accepted.resolve_left (by rw [hacc]; simpa using hn)).1
      have hleft := hin.left
      constructor <;> intro _ <;> omega
    next hy =>
      have hy : e.accepted = true := by rw [hacc]; simpa using hy
      split
      next hk =>
        refine h.sendPutByte hw hk rfl fun j x hin => ?_
        have hmore := hin.more.resolve_left (by simp [hk])
        exact ⟨hin.kind, .inl hy, .inr (.inr (.inl rfl)), hin.done, .inr hmore, hin.left, hin.fits⟩
      next hk =>
        split
        · exact h.endExchange_other hw (by simp [hk]) e _
        · exact h.setExchange_other hw (by simp [hk]) (e' := { e with phase := .outbound }) rfl rfl rfl rfl
      next =>
        refine h.endExchange hw e _ (State.released_jobOutcome_dataLaw h e _ fun j x hact hm => ?_)
        have hin := h.within hw hact hm
        have hdone := hin.done
        have hfits := hin.fits
        exact ⟨fun _ => by omega, by simp⟩

theorem State.DataLaw.goodPhase (h : s.DataLaw) : (s.goodPhase e).DataLaw := by
  unfold State.goodPhase; split
  · exact h.of_calm (s.reportStation_calm _ _)
  · exact h

/-- A PUT's byte was acknowledged: one frame more is done (R35). -/
theorem State.DataLaw.putByteSent (h : s.DataLaw) (hw : s.OnWire e) (hk : e.kind = .put) (hp : e.phase = .outbound)
    (m : Bool) : (s.putByteSent e m).DataLaw := by
  have hc := s.mapJobLink_calm Link.putRemove_edited
  have h1 := (h.of_calm hc).mapActive (fun x => { x with msgEnd := x.msgEnd || m }) fun _ => rfl
  have hw1 : ((s.mapJobLink Link.putRemove).mapActive fun x => { x with msgEnd := x.msgEnd || m }).OnWire e :=
    hw.of_view (by simp)
  unfold State.putByteSent; simp only
  generalize ((s.mapJobLink Link.putRemove).mapActive fun x => { x with msgEnd := x.msgEnd || m }) = u at h1 hw1 ⊢
  split
  next hlast =>
    have hg := h1.goodPhase (e := { e with framesDone := e.framesDone + 1 })
    have hwg : (u.goodPhase { e with framesDone := e.framesDone + 1 }).OnWire e := hw1.of_view (by simp)
    refine hg.endExchange hwg _ _ (State.released_jobOutcome_dataLaw hg _ _ fun j x hact hm => ⟨fun _ => ?_, by simp⟩)
    have hfits := (hg.within hwg hact hm).fits
    have hlast : e.framesDone + 1 = e.length.toNat := by simpa using hlast
    change x.bytesMoved + (e.framesDone + 1) ≤ _
    omega
  next hmore =>
    refine h1.sendPutByte hw1 hk rfl fun j x hin => ?_
    have hacc := hin.accepted.resolve_right (by simp [hp])
    have hlt := hin.more.resolve_left (by simp [hk])
    have hne : e.framesDone + 1 ≠ e.length.toNat := by simpa using hmore
    have hlt' : e.framesDone + 1 < e.length.toNat := by omega
    exact ⟨hin.kind, .inl hacc, .inr (.inr (.inl rfl)), hlt'.le, .inr hlt', hin.left, hin.fits⟩

theorem State.DataLaw.testSent (h : s.DataLaw) (hw : s.OnWire e) (hk : e.kind = .probe) : (s.testSent e).DataLaw := by
  unfold State.testSent; simp only; split
  · exact h.setExchange_other hw (by simp [hk])
      (e' := { e with testPassed := e.testPassed + 1, phase := .outbound }) rfl rfl rfl rfl
  · split
    · have hr : (s.reportPace e.station (Station.testReport · true)).DataLaw := by
        have hs := h.of_calm (s.reportStation_calm e.station (Station.testReport · true))
        unfold State.reportPace; simp only; split
        · exact hs.mapActive _ fun _ => rfl
        · exact hs
      exact hr.endExchange_other (hw.of_view (by simp)) (by simp [hk]) _ _
    · exact h.endExchange_other hw (by simp [hk]) _ _

theorem State.DataLaw.takeAck (h : s.DataLaw) (hw : s.OnWire e)
    (ha : s.bus.activity = .header ∨ s.bus.activity = .sending) : (s.takeAck e).DataLaw := by
  have phases := hw.law.phase hw.exchange
  unfold State.takeAck; split
  next hh =>
    have hp : e.phase = .header := phases.1 (.inr hh)
    split
    · exact h.of_calm (.of_tables rfl rfl rfl rfl)
    · refine h.carry hw (e' := { e with phase := .answer }) rfl rfl rfl (fun _ => .refl _) rfl rfl rfl (fun j x hin => ?_)
        fun _ _ => .inl hp
      have hzero := hin.none_done (.inl hp)
      exact ⟨hin.kind, .inr ⟨hzero, by simp, by simp⟩, .inl hzero, hin.done,
        .inr (hin.more.resolve_left (by simp [hp])), hin.left, hin.fits⟩
  next hh =>
    have hp : e.phase = .outbound := phases.2.2.2.2 (ha.resolve_left hh)
    split
    next hk => exact h.putByteSent hw hk hp _
    next hk => exact h.testSent hw hk
    next => exact h

/-- After the answer the exchange is in Handback, or an ACCEPT has put it in a data phase; no frame is done. -/
theorem Exchange.WithinLimit.answered {j : Job} {x : JobContext} (h : e.WithinLimit j x) (hp : e.phase = .answer)
    {a : Answer} (pace : Pace) {p : Phase} (acc : a.accepts = true ∨ p = .handback) :
    ({ e with answer := some a, pace := some pace, phase := p } : Exchange).WithinLimit j x := by
  have hzero := h.none_done (.inr hp)
  have hmore := h.more.resolve_left (by simp [hp])
  exact ⟨h.kind, acc.imp id fun hph => ⟨hzero, by simp [hph], by simp [hph]⟩, .inl hzero, h.done, .inr hmore, h.left,
    h.fits⟩

/-- The answer gives the exchange its phase; an ACCEPT alone lets data frames follow (R25 to R28). -/
theorem State.DataLaw.takeAnswer (h : s.DataLaw) (hw : s.OnWire e) (hp : e.phase = .answer) (a : Answer) :
    (s.takeAnswer e a).DataLaw := by
  have hr := h.of_calm (s.reportStation_calm e.station (·.answerReport a))
  have hwr : (s.reportStation e.station (·.answerReport a)).OnWire e := hw.of_view rfl
  unfold State.takeAnswer; simp only
  generalize e.paceAt a s.settings.clkRate = pace
  split
  · exact hr.failExchange _
  · split
    · exact hr.carry hwr (e' := { e with answer := some a, pace := some pace, phase := .handback }) rfl rfl rfl
        (fun _ => .refl _) rfl rfl rfl (fun _ _ hin => hin.answered hp pace (.inr rfl)) fun _ _ => .inr (.inl hp)
    next hacc =>
      have hacc : a.accepts = true := by simpa using hacc
      split
      case h_3 =>
        exact hr.carry hwr (e' := { e with answer := some a, pace := some pace, phase := .handback }) rfl rfl rfl
          (fun _ => .refl _) rfl rfl rfl (fun _ _ hin => hin.answered hp pace (.inr rfl)) fun _ _ => .inr (.inl hp)
      all_goals
        exact hr.carry hwr (e' := { e with answer := some a, pace := some pace, phase := .inbound }) rfl rfl rfl
          (fun _ => .refl _) rfl rfl rfl (fun _ _ hin => hin.answered hp pace (.inl hacc)) fun _ _ => .inr (.inl hp)

/-- The room left after a byte without a mark has joined the ring (R76). -/
theorem Exchange.HasRoom.takeAppend {e' : Exchange} {j : Job} {l : Link} (h : e.HasRoom j l) (v : Byte)
    (done : e'.framesDone = e.framesDone + 1) (length : e'.length = e.length) (more : e.framesDone + 1 < e.length.toNat) :
    e'.HasRoom j (l.takeAppend v false) where
  kind := h.kind
  dir := h.dir
  more := by rw [done, length]; exact more
  space := by
    have hspace := h.space
    change (l.append v false).count + _ ≤ l.capacity
    rw [Link.append_count, done, length]
    omega
  marks := by
    change (l.append v false).marks < _
    rw [Link.append_marks]
    exact h.marks

/-- A TAKE's byte joins the ring with room for it: one frame more is done (R32, R76). -/
theorem State.DataLaw.takeData (h : s.DataLaw) (hw : s.OnWire e) (hk : e.kind = .take) (hp : e.phase = .inbound)
    (v : Byte) (m : Bool) : (s.takeData e v m).DataLaw := by
  obtain ⟨j, x, hact, room⟩ := h.room e hw.exchange hk (.inr (.inr hp))
  have hin : e.WithinLimit j x := h.within hw hact (.inr room.kind)
  have hacc := hin.accepted.resolve_right (by simp [hp])
  have hlt := room.more
  have hlink : s.mapJobLink (fun l => l.takeAppend v m) = s.setLink j.linkIndex ((s.link j.linkIndex).takeAppend v m) := by
    simp [State.mapJobLink, hact]
  have own {j' : Job} {x' : JobContext} (h' : s.activeJob = some (j', x')) : j' = j ∧ x' = x := by
    simpa using h'.symm.trans hact
  unfold State.takeData; simp only [hlink]; split
  · have hv := (s.setLink j.linkIndex ((s.link j.linkIndex).takeAppend v m)).busView_goodPhase
      { e with framesDone := e.framesDone + 1, markReceived := e.markReceived || m }
    have hjobs : State.jobs _ = s.jobs := congrArg BusView.jobs hv
    refine .of_exchange (fun k hm => h.posted k (hjobs ▸ hm)) rfl (fun j' x' hact' _ => ?_) ?_
    · have hact' : s.activeJob = some (j', x') := by
        revert hact'
        unfold State.goodPhase; split <;> exact id
      obtain ⟨rfl, rfl⟩ := own hact'
      exact ⟨hin.kind, .inl hacc, .inr (.inr (.inr ⟨rfl, hk⟩)), hlt, .inl ⟨rfl, hk⟩, hin.left, hin.fits⟩
    · intro _ hr; simp [Phase.Receives] at hr
  next hmore =>
    obtain ⟨hm, hne⟩ : m = false ∧ e.framesDone + 1 ≠ e.length.toNat := by simpa using hmore
    have hlt' : e.framesDone + 1 < e.length.toNat := by omega
    subst hm
    refine .of_exchange h.posted rfl (fun j' x' hact' _ => ?_) fun _ _ => ⟨j, x, hact, ?_⟩
    · obtain ⟨rfl, rfl⟩ := own hact'
      exact ⟨hin.kind, .inl hacc, .inr (.inl rfl), hlt'.le, .inr hlt', hin.left, hin.fits⟩
    · have hl : (s.setLink j.linkIndex ((s.link j.linkIndex).takeAppend v false)).link j.linkIndex =
          (s.link j.linkIndex).takeAppend v false := State.link_setLink_same ..
      exact hl.symm ▸ room.takeAppend v rfl rfl hlt'

theorem State.DataLaw.takeFrame (h : s.DataLaw) (hw : s.OnWire e) (hp : e.phase = .inbound) (v : Byte) (m : Bool) :
    (s.takeFrame e v m).DataLaw := by
  unfold State.takeFrame; split
  next hk =>
    have hc := (s.reportStation_calm e.station (·.statusReport v)).trans (State.recordClaim_calm _ e v)
    refine (h.of_calm hc).setExchange_other (hw.of_view (by simp)) (by simp [hk])
      (e' := { e with statusByte := some v, phase := .handback }) rfl rfl rfl rfl
  next hk => exact (h.takeData hw hk hp v m).of_calm (State.nextMove_calm _)
  next => exact h

theorem State.DataLaw.endCut (h : s.DataLaw) (law : s.busView.Lawful) (he : s.exchange = some e) (hp : e.phase = .cut) :
    (s.endCut e).DataLaw := by
  have hout := Exchange.outcomeFits_getD (law.seq.fits he).2 hp
  have hf (ha : s.active = none) : (s.setExchange none).busToFree.DataLaw :=
    .of_no_job h.posted ha (by simp [State.busToFree])
  have ends : ((s.setExchange none).busToFree.jobOutcome e (e.outcome.getD .cutByRequest)).DataLaw := by
    refine State.released_jobOutcome_dataLaw h e _ fun j x _ _ => ⟨fun g => ?_, fun g => ?_⟩ <;>
      rw [g] at hout <;> simp [ExchangeOutcome.failure] at hout
  have sq := law.seq
  unfold State.endCut; simp only
  have hseq : (s.setExchange none).busToFree.seq.state = s.seq.state := rfl
  rw [hseq]
  cases hq : s.seq.state <;> simp only
  case scanning =>
    exact (hf (by simpa using (law.betweenVisits hq).active)).of_calm (State.endVisit_calm _ _)
  case running => exact ends
  case cutting =>
    split
    next hn =>
      have hidle : (s.setExchange none).busToFree.DataLaw := .of_no_exchange h.posted rfl fun j x hact => by
        rw [hn] at hact; cases hact
      exact hidle.of_calm (State.setSeq_calm _ _)
    next j x hact =>
      split
      · obtain ⟨y, hy⟩ := State.recordVisit_activeJob e (e.outcome.getD .cutByRequest) hact
        have hjobs := (State.recordVisit_jobs_exchange (s.setExchange none).busToFree e (e.outcome.getD .cutByRequest)).1
        exact State.endJob_dataLaw (fun k hk => h.posted k (hjobs ▸ hk)) _ _ hy
      · exact ends
  all_goals
    rw [BusView.SeqLaw, State.busView_seq, hq] at sq
    simp [he] at sq

/-- A posted PUT or TAKE has a limit of 1 or more (R84, R85). -/
theorem Settings.postedJob_limit {g : Settings} {j : Job} (h : g.postedJob = some j) (hk : j.kind.MovesData) :
    1 ≤ j.limit.toNat := by
  have hv : j.valid = true := by
    unfold Settings.postedJob at h
    split at h
    · cases h
    · split at h <;> simp_all
  have hl : j.limitOk = true := by
    rcases hk with hk | hk <;> simp [Job.valid, hk] at hv <;> exact hv.2
  have hne : j.limit ≠ 0 := by simpa [Job.limitOk] using hl
  rw [Nat.one_le_iff_ne_zero]
  exact fun h0 => hne (BitVec.eq_of_toNat_eq h0)

/-- Every operation keeps the laws of the limit and of a TAKE's room. -/
theorem State.dataLaw_kept : KeptByEvents State.DataLaw where
  calm h hc := h.of_calm hc
  atRest {s t} h _ ht jobs _ hx :=
    .of_no_job (fun j hj => h.posted j (jobs ▸ hj)) ht fun e he => .inl (by simp [hx e he])
  queue {s js} h hhead hnew := by
    have hact : (s.setJobs js).activeJob = s.activeJob := by
      unfold State.activeJob
      cases ha : s.active with
      | none => simp [ha]
      | some x =>
        have hd := hhead (by simp [ha])
        cases hjs : js <;> cases hj : s.jobs <;> simp_all
    refine ⟨fun j hj hk => (hnew j hj).elim (fun hm => h.posted j hm hk) fun hp => Settings.postedJob_limit hp hk,
      fun j x hj => h.limit j x (hact ▸ hj), fun e he hk hp => ?_⟩
    obtain ⟨j, x, hj, hr⟩ := h.room e he hk hp
    exact ⟨j, x, hact ▸ hj, hr⟩
  startJob h idle := State.startJob_dataLaw h idle
  startExchange later h between := State.startExchange_dataLaw h (by simpa using between.exchange) later
  takeAck h hw ha := h.takeAck hw ha
  takeAnswer a h hw ha := h.takeAnswer hw ((hw.law.phase hw.exchange).2.1 ha) a
  takeFrame v m h hw ha := h.takeFrame hw ((hw.law.phase hw.exchange).2.2.1 ha) v m
  takeHandback h hw _ := h.takeHandback hw
  failExchange o h _ := h.failExchange o
  answerTimeout {s e} h hw _ := h.endExchange hw e .noStation
    (State.released_jobOutcome_dataLaw h e .noStation fun _ _ _ _ => ⟨by simp, by simp⟩)
  endCut h law he hp := h.endCut law he hp
  cutExchange h _ := h.cutExchange
  abortNow {s} h rest := by
    obtain ⟨j, x, -, -, -, hact⟩ := s.activeJob_of_active rest.active rest.head
    simp only [State.abortNow, hact]
    exact State.endJob_dataLaw h.posted _ _ hact
  endBusReset {s} n h rest _ := by
    obtain ⟨j, x, -, -, -, hact⟩ := s.activeJob_of_active rest.active rest.head
    exact State.endJobSince_dataLaw h.posted n _ _ hact
  softResetBlocks {s} _ := by
    have hblocks := s.softResetBlocks_eq
    refine .of_no_job (fun j hj => ?_) (congrArg State.active hblocks) fun e he => .inr ?_
    · have : s.softResetBlocks.jobs = [] := congrArg State.jobs hblocks
      exact absurd (this ▸ hj) (by simp)
    · obtain ⟨f, -, rfl⟩ := Option.map_eq_some_iff.mp (show s.exchange.map Exchange.cut = some e from he)
      simp [Phase.Receives, Exchange.cut]
  pinReset s := .of_no_job (fun j hj => absurd hj (by simp [State.pinReset, State.reset])) rfl fun e he => by cases he

/-- A TAKE's data frame that may come finds room (R76). -/
theorem State.DataLaw.takeRoom (h : s.DataLaw) (law : s.busView.Lawful) : s.TakeRoom True := by
  intro _ e j x ha he hk hact
  obtain ⟨j', x', hact', hr⟩ := h.room e he hk (.inr (.inr ((law.phase he).2.2.1 ha)))
  obtain ⟨rfl, rfl⟩ : j = j' ∧ x = x' := by simpa using hact.symm.trans hact'
  have hspace := hr.space
  have hmore := hr.more
  exact ⟨hr.dir, by omega, hr.marks⟩

end DataWire
end Sys2Proof.Machine

section
open Sys2Proof.Machine

/-- Settles O56: every operation keeps a PUT and a TAKE within the limit and a TAKE within its room, so that a data frame
finds room, and then each change of the tables keeps rings and mark lists in their bounds. -/
theorem stepKeepsRingLaw : Obligations.StepKeepsRingLaw := by
  intro s t hq hb hh hl hr ht
  have law := s.busView_lawful_iff.mpr ⟨hq, hb⟩
  obtain ⟨rings, take⟩ := s.ringLaw_iff.mp hr
  have data : s.DataLaw := s.dataLaw_iff.mpr ⟨hl, take⟩
  obtain ⟨limit', take'⟩ := t.dataLaw_iff.mp (State.dataLaw_kept.step data law ht)
  have hreach : State.Reaches True False s t := step_reaches (data.takeRoom law) (fun h => h.elim) ht
  refine ⟨limit', t.ringLaw_iff.mpr ⟨?_, take'⟩⟩
  exact hreach.head_induction_on (motive := fun r _ => r.RingLaw → (∀ c, r.Bound c) → t.tables.RingLaw) (fun h _ => h)
    (fun hstep _ ih hr hb => ih (hstep.ringLaw hr hb) (hstep.bound hb)) rings (s.holderLaw_iff.mp hh)

end


/-! # Reads with an effect, the buffer port and MOVER-START (chapters 8 and 9) -/

namespace Sys2Proof.Machine

/-! ### The whole effect of a DATA read (R171, R172) -/

/-- An access the window takes answers what its operation makes of the state. -/
theorem onWindow_next {f : State → State} {s t : State} (hs : s.windowShut = false) (h : f s = t) :
    onWindow f s = .next t :=
  (onWindow_open f hs).trans (congrArg _ h)

section WholeRead
variable {s : State} {k : BitVec 6} {r : Reg}

/-- After a DATA access only INDEX may have stepped. -/
theorem State.autoStep_eq (s : State) :
    s.autoStep = { s with window := s.window.afterAccess s.settings.step } := by
  unfold State.autoStep
  split
  next h => simp [State.setWindow, Window.afterAccess, h]
  next h => simp [Window.afterAccess, h]

/-- A DATA read returns the register, leaves the register's own read effect and steps INDEX. -/
theorem State.dataRead_eq (hk : s.window.index = k) (hr : regOfIndex k = some r) :
    s.dataRead = { s.readEffect r with
      pins := { (s.readEffect r).pins with readData := s.readReg r }
      window := (s.readEffect r).window.afterAccess (s.readEffect r).settings.step } := by
  simp only [State.dataRead, hk, hr, State.autoStep_eq]
  rfl

theorem lowByte_eq_ofNat (w : Word16) : lowByte w = BitVec.ofNat 8 w.toNat :=
  BitVec.eq_of_toNat_eq (by simp [lowByte_toNat])

theorem highByte_eq_ofNat (w : Word16) : highByte w = BitVec.ofNat 8 (w.toNat / 256) :=
  BitVec.eq_of_toNat_eq (by have := w.isLt; rw [highByte_toNat, ofNat_byte_toNat]; omega)

/-- A byte with the four low bits given. -/
theorem byteOfBits_low (b3 b2 b1 b0 : Bool) : byteOfBits false false false false b3 b2 b1 b0 =
    BitVec.ofNat 8 (bitVal b0 + 2 * bitVal b1 + 4 * bitVal b2 + 8 * bitVal b3) := by
  cases b3 <;> cases b2 <;> cases b1 <;> cases b0 <;> rfl

end WholeRead

/-! ### What the claims of the port and of a channel answer (R73, R74, R77) -/

section Claims
variable (l : Link) (who : Option Chan)

theorem Link.popAllowed_iff : l.popAllowed who = true ↔
    l.dir = .input ∧ l.state ∈ [LinkState.opened, .shutting, .lost] ∧ l.holder = who := by
  simp [Link.popAllowed, and_assoc, or_assoc]

theorem Link.pushAllowed_iff_mem : l.pushAllowed who = true ↔
    l.dir = .output ∧ l.state ∈ [LinkState.opening, .opened] ∧ l.holder = who := by
  simp [Link.pushAllowed_iff]

theorem Link.pop_denied {l : Link} {who : Option Chan} (h : ¬ l.popAllowed who = true) : l.pop who = .denied := by
  simp [Link.pop, h]

theorem Link.pop_nil {l : Link} {who : Option Chan} (h : l.popAllowed who = true) (hr : l.ring = []) :
    l.pop who = .empty := by
  simp [Link.pop, h, hr]

theorem Link.pop_cons {l : Link} {who : Option Chan} {c : Cell} {rest : List Cell} (h : l.popAllowed who = true)
    (hr : l.ring = c :: rest) :
    l.pop who = .handed c { l with ring := rest, start := (l.start + 1) % (256 * l.pages.length) } := by
  simp [Link.pop, h, hr, Link.dropOldest, Link.count, Link.capacity, Config.pageBytes]

theorem Link.push_denied {l : Link} {who : Option Chan} (h : ¬ l.pushAllowed who = true) (v : Byte) (m : Bool) :
    l.push who v m = .denied := by
  simp [Link.push, h]

theorem Link.space_eq_zero_iff : l.space = 0 ↔ 256 * l.pages.length ≤ l.ring.length :=
  Nat.sub_eq_zero_iff_le

theorem Link.push_full {l : Link} {who : Option Chan} (h : l.pushAllowed who = true)
    (full : 256 * l.pages.length ≤ l.ring.length) (v : Byte) (m : Bool) : l.push who v m = .noSpace := by
  simp [Link.push, h, l.space_eq_zero_iff.mpr full]

theorem Link.push_room {l : Link} {who : Option Chan} (h : l.pushAllowed who = true)
    (room : l.ring.length < 256 * l.pages.length) (v : Byte) (m : Bool) :
    l.push who v m = .appended (l.append v m) := by
  simp [Link.push, h, l.space_eq_zero_iff, room]

/-- The newest byte of a ring is the last of the list. -/
theorem markNewest_concat (older : List Cell) (c : Cell) :
    markNewest (older ++ [c]) = older ++ [{ c with marked := true }] := by
  induction older with
  | nil => rfl
  | cons x xs ih => cases xs <;> simp_all [markNewest]

theorem Link.marks_eq_filter : l.marks = (l.ring.filter (·.marked)).length := List.countP_eq_length_filter

theorem Link.mark_denied {l : Link} (h : ¬ l.pushAllowed none = true) : l.mark = .refused .portDenied := by
  simp [Link.mark, h]

theorem Link.mark_nil {l : Link} (h : l.pushAllowed none = true) (hr : l.ring = []) :
    l.mark = .refused .nothingToMark := by
  simp [Link.mark, h, hr]

/-- A mark claim on a ring with a newest byte: the checks of R74, in order. -/
theorem Link.mark_concat {l : Link} {older : List Cell} {c : Cell} (h : l.pushAllowed none = true)
    (hr : l.ring = older ++ [c]) : l.mark =
      if c.marked = true ∨ (l.inFlight = true ∧ older = []) then .refused .nothingToMark
      else if 8 ≤ (l.ring.filter (·.marked)).length then .refused .marksFull
      else .placed { l with ring := older ++ [{ c with marked := true }], messageOpen := false } := by
  have hlast : l.ring.getLast? = some c := by simp [hr]
  have hone : (l.count == 1) = true ↔ older = [] := by simp [Link.count, hr]
  simp only [Link.mark, h, hlast, ← Link.marks_eq_filter, Bool.or_eq_true, Bool.and_eq_true, hone, if_true]
  rw [hr, markNewest_concat]

end Claims

/-! ### The first byte move of a run (R157, R160, log 13) -/

theorem State.startMove_taken (s : State) (c : Chan) : (s.startMove c).taken = s.taken.startMove c := by
  have hl (i : LinkIndex) : s.taken.link i = s.link i := rfl
  have hc : s.taken.chan c = s.chan c := rfl
  simp only [State.startMove, hl, hc]
  cases (s.chan c).dir with
  | output => rfl
  | input => cases (s.link (s.chan c).link).pop (some c) <;> rfl

/-- What CMDERR holds plays no part in the byte moves. -/
theorem State.nextMove_taken (s : State) : s.nextMove.taken = s.taken.nextMove := by
  have hp : s.taken.pins = s.pins := rfl
  have hm : s.taken.mover = s.mover := rfl
  have hc : s.taken.chooseChannel = s.chooseChannel := rfl
  simp only [State.nextMove, hp, hm, hc]
  split
  · cases s.chooseChannel with
    | none => rfl
    | some c => exact s.startMove_taken c
  · rfl

/-- The states a link needs for MOVER-START (R157, check 3). -/
theorem Link.startable_iff (l : Link) : l.startable = true ↔
    (l.dir = .input ∧ l.state ∈ [LinkState.opened, .shutting, .lost]) ∨
      (l.dir = .output ∧ l.state ∈ [LinkState.opening, .opened]) := by
  cases hd : l.dir <;> simp [Link.startable, hd, or_assoc]

theorem Link.startable_eq_false_iff (l : Link) : l.startable = false ↔
    (l.dir = .input ∧ l.state ∉ [LinkState.opened, .shutting, .lost]) ∨
      (l.dir = .output ∧ l.state ∉ [LinkState.opening, .opened]) := by
  cases hd : l.dir <;> simp [Link.startable, hd, and_assoc]

theorem State.freeSlots_eq_zero_iff (s : State) :
    s.freeSlots = 0 ↔ 16 ≤ s.events.held.length + s.events.reserved.length := by
  simp only [State.freeSlots, Config.eventSlots]
  omega

section
variable {s : State} {c : Chan}

/-- The checks of MOVER-START on the link and on the event queue, of an Idle channel with a count. -/
theorem State.startRefusal_of_idle (idle : (s.chan c).running = false) (count : (s.chan c).count ≠ 0) :
    s.startRefusal c =
      if (s.link (s.chan c).link).startable = false then some .linkStateBad
      else if (s.link (s.chan c).link).holder ≠ none then some .linkBusy
      else if (s.link (s.chan c).link).dir = .output ∧ (s.chan c).mode = true ∧
        8 ≤ ((s.link (s.chan c).link).ring.filter (·.marked)).length then some .marksFull
      else if 16 ≤ s.events.held.length + s.events.reserved.length then some .noEventSlot
      else none := by
  have count' : ¬(s.chan c).count = 0#16 := count
  simp [State.startRefusal, idle, count', ← Link.marks_eq_filter, s.freeSlots_eq_zero_iff, and_assoc,
    Option.isSome_iff_ne_none]

theorem State.moverStart_refused {r : Reason} (h : s.startRefusal c = some r) : s.moverStart c = s.refuse r := by
  simp [State.moverStart, h]

theorem State.moverStart_started (h : s.startRefusal c = none) :
    s.moverStart c = (s.startRun c).taken.nextMove := by
  simp [State.moverStart, h, State.nextMove_taken]

end

end Sys2Proof.Machine

section
open Sys2Proof.Machine

/-- Settles O11: each of these reads is a DATA read of one register, whose value and read effect are given. -/
theorem readsWithAnEffect : Obligations.ReadsWithAnEffect := by
  refine ⟨fun s c hs => ?_, fun s hs hk => ?_⟩
  · refine ⟨fun hk => ?_, fun hk => ?_, fun hk => ?_, fun hk => ?_, fun hk => ?_, fun hk => ?_, fun hk => ?_,
      fun hk => ?_⟩
    · refine onWindow_next hs ?_
      rw [State.dataRead_eq hk rfl]
      rfl
    · exact ⟨_, onWindow_open _ hs, State.dataRead_at hk rfl⟩
    · refine onWindow_next hs ?_
      rw [State.dataRead_eq hk rfl, ← lowByte_eq_ofNat, ← highByte_eq_ofNat]
      rfl
    · exact ⟨_, onWindow_open _ hs, State.dataRead_at hk rfl⟩
    · have hr : regOfIndex (BitVec.ofNat 6 (49 + 8 * chanCode c)) = some (.mover c .addrL) := by cases c <;> rfl
      refine onWindow_next hs ?_
      rw [State.dataRead_eq (State.index_eq hk) hr, ← lowByte_eq_ofNat, ← highByte_eq_ofNat]
      rfl
    · have hr : regOfIndex (BitVec.ofNat 6 (50 + 8 * chanCode c)) = some (.mover c .addrH) := by cases c <;> rfl
      exact ⟨_, onWindow_open _ hs, State.dataRead_at (State.index_eq hk) hr⟩
    · have hr : regOfIndex (BitVec.ofNat 6 (51 + 8 * chanCode c)) = some (.mover c .countL) := by cases c <;> rfl
      refine onWindow_next hs ?_
      rw [State.dataRead_eq (State.index_eq hk) hr, ← lowByte_eq_ofNat, ← highByte_eq_ofNat]
      rfl
    · have hr : regOfIndex (BitVec.ofNat 6 (52 + 8 * chanCode c)) = some (.mover c .countH) := by cases c <;> rfl
      exact ⟨_, onWindow_open _ hs, State.dataRead_at (State.index_eq hk) hr⟩
  · refine onWindow_next hs ?_
    rw [State.dataRead_eq hk rfl, ← byteOfBits_low]
    rfl

/-- Settles O13: the answer of the pop claim and of the push claim, case by case. -/
theorem portAccessResult : Obligations.PortAccessResult := by
  refine ⟨?read, ?write⟩
  case read =>
    rintro s l cell rest hs rfl
    rw [← Link.popAllowed_iff]
    refine ⟨fun allowed => ⟨fun hr => ?_, fun hr => ?_⟩, fun denied => ?_⟩ <;>
      refine onWindow_next hs ?_ <;> unfold State.portRead
    · rw [Link.pop_cons allowed hr]; rfl
    · rw [Link.pop_nil allowed hr]; rfl
    · rw [Link.pop_denied denied]; rfl
  case write =>
    rintro s l v hs rfl
    rw [← Link.pushAllowed_iff_mem]
    refine ⟨fun allowed => ⟨fun room => ?_, fun full => ?_⟩, fun denied => ?_⟩ <;>
      refine onWindow_next (f := (·.portWrite v)) hs ?_ <;> unfold State.portWrite
    · rw [Link.push_room allowed room]; rfl
    · rw [Link.push_full allowed full]; rfl
    · rw [Link.push_denied denied]; rfl

/-- Settles O14: the answer of the mark claim, its checks in order. -/
theorem portMarkResult : Obligations.PortMarkResult := by
  rintro s l older cell hs rfl
  rw [← Link.pushAllowed_iff_mem]
  refine ⟨fun denied => ?_, fun allowed => ⟨fun hr => ?_, fun hr => ⟨fun marked => ?_, fun plain free =>
    ⟨fun full => ?_, fun room => ?_⟩⟩⟩⟩ <;>
    refine onWindow_next hs ?_ <;> unfold State.portMark
  · rw [Link.mark_denied denied]; rfl
  · rw [Link.mark_nil allowed hr]; rfl
  · rw [Link.mark_concat allowed hr, if_pos marked]; rfl
  · rw [Link.mark_concat allowed hr, if_neg (by simp [plain, free]), if_pos full]; rfl
  · rw [Link.mark_concat allowed hr, if_neg (by simp [plain, free]), if_neg (by omega)]; rfl

/-- Settles O30: the first failing check is the refusal; with none failing the run starts, then its first byte move. -/
theorem moverStartResult : Obligations.MoverStartResult := by
  refine ⟨?refused, ?started⟩
  case refused =>
    rintro s c l r hs rfl h
    refine onWindow_next (f := (·.moverStart c)) hs (State.moverStart_refused ?_)
    rw [← Link.startable_iff, ← Link.startable_eq_false_iff] at h
    rcases h with ⟨running, rfl⟩ | ⟨idle, zero, rfl⟩ | ⟨idle, count, ⟨bad, rfl⟩ | ⟨startable, ⟨held, rfl⟩ | ⟨free,
      ⟨out, mode, full, rfl⟩ | ⟨room, slots, rfl⟩⟩⟩⟩
    · simp [State.startRefusal, running]
    · simp [State.startRefusal, idle, zero]
    · simp [State.startRefusal_of_idle idle count, bad]
    · simp [State.startRefusal_of_idle idle count, startable, held]
    · simp [State.startRefusal_of_idle idle count, startable, free, out, mode, full]
    · rw [State.startRefusal_of_idle idle count, if_neg (by simp [startable]), if_neg (by simp [free]), if_neg room,
        if_pos slots]
  case started =>
    rintro s c l hs rfl idle count startable free room slots
    have hnone : s.startRefusal c = none := by
      rw [← Link.startable_iff] at startable
      rw [State.startRefusal_of_idle idle count, if_neg (by simp [startable]), if_neg (by simp [free]),
        if_neg (fun ⟨out, mode, full⟩ => absurd (room out mode) (not_lt.mpr full)), if_neg (not_le.mpr slots)]
    exact onWindow_next (f := (·.moverStart c)) hs (State.moverStart_started hnone)

end


/-! # Jobs that present their claim, end at their start, or end at an ABORT (chapters 4 and 5) -/

namespace Sys2Proof.Machine

/-! ### Failing data claims (R79) -/

section DataClaims
variable {s : State} {j : Job} {x : JobContext} {l : Link} {f : JobResult}

theorem Link.ClaimFails.putClaim (h : l.ClaimFails .put f) : l.putClaim = some f := by
  rcases h with ⟨lost, rfl⟩ | ⟨notLost, notOpen, rfl⟩ | ⟨isOpen, way, rfl⟩ | ⟨-, ⟨⟩, -⟩ | ⟨-, ⟨⟩, -⟩
  · simp [Link.putClaim, lost]
  · simp [Link.putClaim, notLost, notOpen]
  · have dir : l.dir = .input := by simpa using way
    simp [Link.putClaim, isOpen, dir]

theorem Link.ClaimFails.takeClaim (h : l.ClaimFails .take f) : l.takeClaim = some f := by
  rcases h with ⟨lost, rfl⟩ | ⟨notLost, notOpen, rfl⟩ | ⟨isOpen, way, rfl⟩ | ⟨isOpen, -, dir, full, rfl⟩ |
    ⟨isOpen, -, dir, room, full, rfl⟩
  · simp [Link.takeClaim, lost]
  · simp [Link.takeClaim, notLost, notOpen]
  · have dir : l.dir = .output := by simpa using way
    simp [Link.takeClaim, isOpen, dir]
  · simp [Link.takeClaim, isOpen, dir, Link.marks_eq_filter, full]
  · simp [Link.takeClaim, isOpen, dir, Link.marks_eq_filter, room, l.space_eq_zero_iff.mpr full]

/-- A PUT that fails its claim ends with the claim's answer (R102). -/
theorem State.startExchange_put_fails (hact : s.activeJob = some (j, x)) (hk : j.kind = .put)
    (hf : (s.link j.linkIndex).ClaimFails .put f) (later : Bool) :
    s.startExchange later = s.afterJobEnd (j.endRecord x f 0) := by
  simp only [State.startExchange, hact, hk, State.startPut, hf.putClaim]
  exact State.endJob_keep hact f

/-- A PUT that finds its ring empty ends DONE (R102). -/
theorem State.startExchange_put_empty (hact : s.activeJob = some (j, x)) (hk : j.kind = .put)
    (isOpen : (s.link j.linkIndex).state = .opened) (dir : (s.link j.linkIndex).dir = .output)
    (empty : (s.link j.linkIndex).ring = []) (later : Bool) :
    s.startExchange later = s.afterJobEnd (j.endRecord x .done 0) := by
  have zero : (s.link j.linkIndex).count = 0 := by rw [Link.count, empty]; rfl
  simp only [State.startExchange, hact, hk, State.startPut, Link.putClaim_none isOpen dir, zero, if_true]
  exact State.endJob_keep hact .done

/-- A TAKE that fails its claim ends with the claim's answer, but DONE at a later exchange with a full ring (R104). -/
theorem State.startExchange_take_fails (hact : s.activeJob = some (j, x)) (hk : j.kind = .take)
    (hf : (s.link j.linkIndex).ClaimFails .take f) (later : Bool) :
    s.startExchange later =
      s.afterJobEnd (j.endRecord x (if later = true ∧ f = .ringFull then .done else f) 0) := by
  simp only [State.startExchange, hact, hk, State.startTake, hf.takeClaim, Bool.and_eq_true, beq_iff_eq]
  exact State.endJob_keep hact _

/-- The exchange `State.NextExchange` gives begins on a Free bus unit. -/
theorem State.startExchange_begins {r : Exchange} (hact : s.activeJob = some (j, x)) (h : s.NextExchange j x r)
    (hbus : s.bus.activity = .free) (later : Bool) :
    s.startExchange later = { s with exchange := some r, bus := s.bus.inClearing s.settings } :=
  (State.startExchange_of_next hact h later).trans (State.beginExchange_of_free hbus r)

end DataClaims

/-! ### The events at which a job goes on (R96, R98) -/

section GoesOn
variable {s : State} {j : Job} {x : JobContext}

/-- The state in which a job begins a later or a repeat exchange: Running (R96, R98). -/
def State.inRunning (s : State) : State := s.setSeqState .running

theorem State.inRunning_of_running (hq : s.seq.state = .running) : s.inRunning = s := by
  rw [State.inRunning, State.setSeqState, State.setSeq, ← hq]

/-- An exchange that begins leaves the sequencer Running, and the arbiter decides nothing. -/
theorem State.inRunning_begins {r : Exchange} (hact : s.activeJob = some (j, x)) (hbus : s.bus.activity = .free)
    (next : s.NextExchange j x r) (later : Bool) :
    (s.inRunning.startExchange later).decide = { s with
      exchange := some r, bus := s.bus.inClearing s.settings, seq := { s.seq with state := .running } } := by
  rw [State.startExchange_begins (s := s.inRunning) hact next hbus]
  exact State.decide_of_not_idle _ (by simp [State.inRunning, State.setSeqState, State.setSeq])

/-- The end of the busy delay begins the repeat exchange (R96). -/
theorem State.exec_busyDelayEnd (hq : s.seq.state = .holding) :
    exec .busyDelayEnd s = .next (s.inRunning.startExchange false).decide := by
  refine congrArg Host.Outcome.next ?_
  rw [State.busyDelayEnd, if_pos hq]
  exact State.settle_of_not_idle _ _ (by simp [hq])

/-- A next step between exchanges begins the next one (R98). -/
theorem State.exec_nextStep (hq : s.seq.state = .running) (he : s.exchange = none) (hact : s.activeJob = some (j, x))
    (hk : j.kind.severalExchanges = true) : exec .nextStep s = .next (s.startExchange true).decide := by
  refine congrArg Host.Outcome.next ?_
  have between : s.betweenExchanges = true := by simp [State.betweenExchanges, hact, hk]
  simp only [State.nextStep, hq, he, between, if_true]
  exact State.settle_of_not_idle _ _ (by simp [hq])

/-- The two events at which a PUT or a TAKE goes on, `later` telling them apart. -/
def State.GoesOn (s : State) (c : Instr) (later : Bool) : Prop :=
  (c = .nextStep ∧ s.seq.state = .running ∧ later = true) ∨ (c = .busyDelayEnd ∧ s.seq.state = .holding ∧ later = false)

theorem State.goesOn_of_event {c : Instr}
    (h : (c = .nextStep ∧ s.seq.state = .running) ∨ (c = .busyDelayEnd ∧ s.seq.state = .holding)) :
    s.GoesOn c (Decidable.decide (c = .nextStep)) := by
  rcases h with ⟨rfl, hq⟩ | ⟨rfl, hq⟩
  · exact .inl ⟨rfl, hq, rfl⟩
  · exact .inr ⟨rfl, hq, rfl⟩

theorem State.GoesOn.exec {c : Instr} {later : Bool} (h : s.GoesOn c later) (he : s.exchange = none)
    (hact : s.activeJob = some (j, x)) (hk : j.kind.severalExchanges = true) :
    exec c s = .next (s.inRunning.startExchange later).decide := by
  rcases h with ⟨rfl, hq, rfl⟩ | ⟨rfl, hq, rfl⟩
  · rw [State.inRunning_of_running hq]; exact State.exec_nextStep hq he hact hk
  · exact State.exec_busyDelayEnd hq

end GoesOn

end Sys2Proof.Machine

section
open Sys2Proof Sys2Proof.Machine

/-- Settles O25: each of these events starts an exchange of the Running job, and the arbiter decides on what it leaves. -/
theorem dataJobsPresentTheirClaim : Obligations.DataJobsPresentTheirClaim := by
  refine ⟨?put, ?take, ?repeated⟩
  case put =>
    rintro s c j x rest l r f hc he hbus hj ha - hk rfl
    have hact := State.activeJob_eq hj ha
    have goes := (State.goesOn_of_event hc).exec he hact (by rw [hk]; rfl)
    refine ⟨fun next => ?_, fun isOpen dir empty => ?_, fun fails => ?_⟩
    · rw [goes, State.inRunning_begins hact hbus next]
    · rw [goes, State.startExchange_put_empty (s := s.inRunning) hact hk isOpen dir empty]; rfl
    · rw [goes, State.startExchange_put_fails (s := s.inRunning) hact hk fails]; rfl
  case take =>
    rintro s c j x rest l r f hc he hbus hj ha - hk rfl
    have hact := State.activeJob_eq hj ha
    have goes := (State.goesOn_of_event hc).exec he hact (by rw [hk]; rfl)
    refine ⟨fun next => ?_, fun fails => ?_⟩
    · rw [goes, State.inRunning_begins hact hbus next]
    · rw [goes, State.startExchange_take_fails (s := s.inRunning) hact hk fails]
      simp only [decide_eq_true_eq]
      rfl
  case repeated =>
    rintro s j x rest r hq hbus hj ha - next
    rw [State.exec_busyDelayEnd hq, State.inRunning_begins (State.activeJob_eq hj ha) hbus next]

end


/-! # A job that ends at its own start (R63, R65, R79, R99, R100, R115) -/

namespace Sys2Proof.Machine

/-! ### A slot reserved and given back at one event (R93, R115) -/

/-- The state with a job Active in Running, its slot reserved and its context given (R93). -/
def State.started (s : State) (x : JobContext) : State :=
  { s with
    seq := { s.seq with state := .running }
    events := { s.events with reserved := s.events.reserved ++ [.job] }
    active := some x }

section Started
variable {s t : State} {x : JobContext} {c : Chan} {r : StopReason} {e : Event}

/-- The end of a job at its own start leaves no trace of the start. -/
theorem State.started_afterJobEnd (h : Holder.job ∉ s.events.reserved) (e : Event) :
    (s.started x).afterJobEnd e = s.afterJobEnd e := by
  simp [State.afterJobEnd, State.started, List.erase_append_right _ h, List.erase_of_not_mem h]

theorem State.started_afterRunEnd (h : Holder.job ∉ s.events.reserved) (e : Event) (c : Chan) (r : StopReason) :
    ((s.started x).afterRunEnd c r).afterJobEnd e = (s.afterRunEnd c r).afterJobEnd e := by
  have hr : ((s.events.reserved ++ [Holder.job]).erase (.channel c)).erase .job =
      (s.events.reserved.erase (.channel c)).erase .job := by
    rw [List.erase_comm, List.erase_append_right _ h, List.erase_comm, List.erase_of_not_mem h]
    simp
  simp only [State.afterJobEnd, State.afterRunEnd, State.started, hr]
  rfl

/-- The same where the end stops a bound channel. -/
theorem State.EndsStopping.of_started (hfree : Holder.job ∉ s.events.reserved)
    (h : (s.started x).EndsStopping t c r e) : s.EndsStopping t c r e := by
  rcases h with ⟨moving, ht⟩ | ⟨still, held, hmem, ht⟩
  · exact .inl ⟨moving, ht.trans (State.started_afterJobEnd (s := { s with
      mover := s.mover.setChan c { s.chan c with stopPending := some ((s.chan c).stopPending.getD r) } }) hfree e)⟩
  · rw [State.started_afterRunEnd hfree] at ht
    exact .inr ⟨still, held, hmem, ht⟩

/-- A job's end takes the head off the queue, whether or not it stops a channel. -/
theorem State.EndsStopping.jobs_eq (h : s.EndsStopping t c r e) : t.jobs = s.jobs.tail := by
  rcases h with ⟨-, rfl⟩ | ⟨-, held, -, rfl⟩ <;> rfl

end Started

/-! ### The arbiter goes on with the rest of the queue (R90, R115, log 20) -/

section EndsAtStart
variable {s t : State} {j : Job}

/-- The state from which the head job starts, its start left out: the job-turn flag and the stall are clear (R92, R93). -/
def State.beforeStart (s : State) : State := { s with seq := { s.seq with stall := false, jobTurn := false } }

theorem State.afterStart_eq_started (s : State) : s.afterStart = s.beforeStart.started JobContext.fresh := rfl

/-- A start that ends its job at once is followed by the decision on the rest of the queue. -/
theorem State.decide_of_ended (h : s.JobMayStart j) (ht : (s.setSeq { s.seq with stall := false }).startJob = t)
    (hjobs : t.jobs = s.jobs.tail) : s.decide = t.decide := by
  obtain ⟨rest, hj⟩ := List.head?_eq_some_iff.mp h.2.1
  rw [State.decide_of_named h.1 (State.namedStart_job h) h.2.2.2, State.carryOut, ht, State.decide, hjobs, hj]
  rfl

/-- A job that ends at its start with nothing else changed but what `cleaned` says. -/
theorem State.decide_of_ended_at_start {cleaned : State} {x : JobContext} {e : Event} (h : s.JobMayStart j)
    (ht : (s.setSeq { s.seq with stall := false }).startJob = (cleaned.started x).afterJobEnd e)
    (hjobs : cleaned.jobs = s.jobs) (hfree : Holder.job ∉ cleaned.events.reserved) :
    s.decide = (cleaned.afterJobEnd e).decide :=
  State.decide_of_ended h (ht.trans (State.started_afterJobEnd hfree e)) (congrArg List.tail hjobs)

end EndsAtStart

/-! ### The claims that fail at a start (R63, R65) -/

section FailingClaims
variable {s : State} {j : Job} {i k : LinkIndex} {st : StationIndex} {ch : BitVec 3} {d : Dir} {n : Nat}

theorem Link.bound_iff (l : Link) : l.bound = true ↔ l.state ≠ .closed := by simp [Link.bound]

theorem State.openClaim_linkState (h : (s.link i).state ≠ .closed) : s.openClaim i st ch d n = .error .linkState := by
  rw [State.openClaim, if_pos ((Link.bound_iff _).mpr h)]

/-- Whether no other link that is not Closed binds the endpoint (R63). -/
theorem State.endpointFree_iff : s.endpointFree i st ch d = true ↔
    ∀ k : LinkIndex, k ≠ i → (s.link k).state = .closed ∨
      ¬((s.link k).station = st ∧ (s.link k).channel = ch ∧ (s.link k).dir = d) := by
  have binds_iff (k : LinkIndex) : (s.link k).binds st ch d = false ↔ (s.link k).state = .closed ∨
      ¬((s.link k).station = st ∧ (s.link k).channel = ch ∧ (s.link k).dir = d) := by
    rw [← Bool.not_eq_true]
    simp only [Link.binds, Link.bound, Bool.and_eq_true, bne_iff_ne, beq_iff_eq]
    tauto
  have every (k : LinkIndex) : k ∈ allLinks := by fin_cases k <;> decide
  simp only [State.endpointFree, List.all_eq_true, every, true_implies, Bool.or_eq_true, beq_iff_eq,
    Bool.not_eq_true', binds_iff]
  exact forall_congr' fun k => or_iff_not_imp_left

theorem State.openClaim_linkConflict (closed : (s.link i).state = .closed) (hk : k ≠ i)
    (hbound : (s.link k).state ≠ .closed) (hst : (s.link k).station = st) (hch : (s.link k).channel = ch)
    (hd : (s.link k).dir = d) : s.openClaim i st ch d n = .error .linkConflict := by
  have taken : s.endpointFree i st ch d = false := Bool.eq_false_iff.mpr fun h =>
    (State.endpointFree_iff.mp h k hk).elim hbound fun g => g ⟨hst, hch, hd⟩
  simp [State.openClaim, Link.bound, closed, taken]

theorem State.openClaim_noPages (closed : (s.link i).state = .closed)
    (hend : ∀ k : LinkIndex, k ≠ i → (s.link k).state = .closed ∨
      ¬((s.link k).station = st ∧ (s.link k).channel = ch ∧ (s.link k).dir = d))
    (few : s.freePages.length < n) : s.openClaim i st ch d n = .error .noPages := by
  simp [State.openClaim, Link.bound, closed, State.endpointFree_iff.mpr hend, few]

/-- An OPEN whose claim fails ends with the claim's answer (R99). -/
theorem State.startOpen_fails {x : JobContext} {r : JobResult} (hact : s.activeJob = some (j, x))
    (h : s.openClaim j.linkIndex j.stationIndex j.channel j.dir j.pages.toNat = .error r) :
    s.startOpen j = s.afterJobEnd (j.endRecord x r 0) := by
  rw [State.startOpen, h]
  exact State.endJob_keep hact r

/-- A SHUT of a link that is neither Open nor Lost ends LINK-STATE (R65, R100). -/
theorem State.startShut_fails {x : JobContext} (hact : s.activeJob = some (j, x))
    (h : (s.link j.linkIndex).state ∈ [LinkState.closed, .opening, .shutting]) :
    s.startShut j = s.afterJobEnd (j.endRecord x .linkState 0) := by
  simp only [List.mem_cons, List.not_mem_nil, or_false] at h
  rw [State.startShut]
  rcases h with h | h | h <;> rw [h] <;> exact State.endJob_keep hact .linkState

/-- A SHUT of a Lost link closes it at once, and its event says LOCAL (R65, R100). -/
theorem State.startShut_lost (h : (s.link j.linkIndex).state = .lost) :
    s.startShut j = (s.mapActive fun x => { x with localClose := true }).endJob .done (.close .shut) := by
  rw [State.startShut, h]

end FailingClaims

end Sys2Proof.Machine

section
open Sys2Proof Sys2Proof.Machine

/-- Settles O23: the decision names the head job, its start ends it, and the arbiter decides on the rest of the queue. -/
theorem jobEndsAtItsStart : Obligations.JobEndsAtItsStart := by
  refine ⟨?openClaim, ?claims, ?bound⟩
  case openClaim =>
    rintro s j k r h - - - hfree hk hr
    have hj : s.jobs.head? = some j := h.2.1
    have fails : s.afterStart.openClaim j.linkIndex j.stationIndex j.channel j.dir j.pages.toNat = .error r := by
      rcases hr with ⟨bound, rfl⟩ | ⟨closed, other, bound, hst, hch, hd, rfl⟩ | ⟨closed, hend, few, rfl⟩
      · exact State.openClaim_linkState (s := s.afterStart) bound
      · exact State.openClaim_linkConflict (s := s.afterStart) closed other bound hst hch hd
      · exact State.openClaim_noPages (s := s.afterStart) closed hend few
    have ends := (State.startJob_open hj hk).trans (State.startOpen_fails (State.afterStart_activeJob hj) fails)
    rw [State.decide_of_ended_at_start (cleaned := s.beforeStart) h ends rfl hfree]
    simp [State.beforeStart, Job.endRecord, hk, JobContext.fresh, bitVal]
  case claims =>
    rintro s base j l r h - - - hfree rfl rfl
    have hj : s.jobs.head? = some j := h.2.1
    have hact := State.afterStart_activeJob hj
    refine ⟨fun hk fails => ?_, fun hk isOpen dir empty => ?_, fun hk state => ?_, fun hk lost unbound => ?_⟩
    · have start := State.startJob_exchange hj (by rcases hk with hk | hk <;> simp [hk])
      rcases hk with hk | hk <;> rw [hk] at fails
      · exact State.decide_of_ended_at_start (cleaned := s.beforeStart) h
          (start.trans (State.startExchange_put_fails hact hk fails false)) rfl hfree
      · exact State.decide_of_ended_at_start (cleaned := s.beforeStart) h
          (start.trans (State.startExchange_take_fails hact hk fails false)) rfl hfree
    · exact State.decide_of_ended_at_start (cleaned := s.beforeStart) h ((State.startJob_exchange hj (by simp [hk])).trans
        (State.startExchange_put_empty hact hk isOpen dir empty false)) rfl hfree
    · exact State.decide_of_ended_at_start (cleaned := s.beforeStart) h
        ((State.startJob_shut hj hk).trans (State.startShut_fails hact state)) rfl hfree
    · have closes := State.endJob_close_unbound (State.activeJob_setActive hact
        { JobContext.fresh with localClose := true }) unbound .done .shut
      exact State.decide_of_ended_at_start (cleaned := s.beforeStart.afterClose j.linkIndex) h
        ((State.startJob_shut hj hk).trans ((State.startShut_lost (s := s.afterStart) lost).trans closes)) rfl hfree
  case bound =>
    rintro s base j c h - - - hfree rfl hk lost bound running
    have hj : s.jobs.head? = some j := h.2.1
    have ends := State.endJob_close_bound (State.activeJob_setActive (State.afterStart_activeJob hj)
      { JobContext.fresh with localClose := true }) bound running .done .shut
    have ends' := State.EndsStopping.of_started (s := s.beforeStart.afterClose j.linkIndex) hfree ends
    have start := (State.startJob_shut hj hk).trans (State.startShut_lost (s := s.afterStart) lost)
    exact ⟨_, ends', State.decide_of_ended h start ends'.jobs_eq⟩

end


/-! # ABORT outside an exchange (R111, R113) -/

namespace Sys2Proof.Machine

section Abort
variable {s : State} {j : Job} {x : JobContext}

/-- The Active job is in Holding, or Running between exchanges: there is no exchange to cut (R111). -/
def State.OutsideExchange (s : State) : Prop :=
  s.seq.state = .holding ∨ (s.seq.state = .running ∧ s.exchange = none)

/-- ABORT with no exchange to cut ends the job at once, ABORTED, with the cleanup of its kind (R113). -/
theorem State.exec_abort (hs : s.windowShut = false) (h : s.OutsideExchange) (hact : s.activeJob = some (j, x)) :
    exec .abort s = .next (s.taken.endJob .aborted (j.kind.cleanup false)).decide := by
  have now : s.taken.abortNow = s.taken.endJob .aborted (j.kind.cleanup false) := by
    rw [State.abortNow, show s.taken.activeJob = some (j, x) from hact]
  refine onWindow_next (f := (·.abortJob)) hs ?_
  rcases h with holding | ⟨running, none⟩
  · simp only [State.abortJob, holding, now]
  · simp only [State.abortJob, running, none, now]

/-- ABORT of a job that holds no link in Opening or Shutting (R113, R114). -/
theorem State.exec_abort_keep (hs : s.windowShut = false) (h : s.OutsideExchange) (hact : s.activeJob = some (j, x))
    (hk : j.kind.cleanup false = .keep) :
    exec .abort s = .next (s.taken.afterJobEnd (j.endRecord x .aborted 0)).decide := by
  rw [State.exec_abort hs h hact, hk, State.endJob_keep (s := s.taken) hact]

/-- ABORT of an OPEN or a SHUT whose link no channel is bound to (R64, R66, R67, R113). -/
theorem State.exec_abort_close (hs : s.windowShut = false) (h : s.OutsideExchange) (hact : s.activeJob = some (j, x))
    (hk : j.kind.cleanup false = .close .link) (unbound : (s.link j.linkIndex).holder = none) :
    exec .abort s = .next ((s.taken.afterClose j.linkIndex).afterJobEnd
      (j.endRecord x .aborted (s.link j.linkIndex).ring.length)).decide := by
  rw [State.exec_abort hs h hact, hk, State.endJob_close_unbound (s := s.taken) hact unbound]
  rfl

end Abort

end Sys2Proof.Machine

section
open Sys2Proof Sys2Proof.Machine

/-- Settles O19: with no exchange to cut, ABORT is the end of the job with the cleanup of its kind. -/
theorem abortOutsideAnExchange : Obligations.AbortOutsideAnExchange := by
  refine ⟨?data, ?opener, ?others, ?bound⟩
  case data =>
    intro s j x rest hs h hj ha _
    have keep := State.exec_abort_keep hs h (State.activeJob_eq hj ha)
    refine ⟨fun hk => ?_, fun hk => ?_⟩
    · rw [keep (by rcases hk with hk | hk <;> rw [hk] <;> rfl), Job.endRecord_eq (by rcases hk with hk | hk <;> simp [hk])]
      rcases hk with hk | hk <;> simp [Job.eventCount, Job.eventDetail, hk, State.taken_eq]
    · rw [keep (by rw [hk]; rfl), Job.endRecord_eq (by simp [hk])]
      simp [Job.eventCount, Job.eventDetail, hk, State.taken_eq]
  case opener =>
    intro s j x rest hs holding hj ha hk _ unbound
    rw [State.exec_abort_close hs (.inl holding) (State.activeJob_eq hj ha) (by rw [hk]; rfl) unbound,
      Job.endRecord_eq (by simp [hk])]
    simp only [Job.eventCount, Job.eventDetail, hk]
    rfl
  case others =>
    intro s j x rest hs h hj ha _
    have hact := State.activeJob_eq hj ha
    refine ⟨fun hk => ?_, fun hk unbound => ?_⟩
    · exact State.exec_abort_keep hs h hact (by rcases hk with ⟨hk, -⟩ | hk <;> rw [hk] <;> rfl)
    · exact State.exec_abort_close hs h hact (by rw [hk]; rfl) unbound
  case bound =>
    intro s j x rest c hs holding hj ha hk _ bound running
    have hact := State.activeJob_eq hj ha
    have close : j.kind.cleanup false = .close .link := by rcases hk with hk | hk <;> rw [hk] <;> rfl
    refine ⟨_, State.endJob_close_bound (s := s.taken) hact bound running .aborted .link, ?_⟩
    rw [State.exec_abort hs (.inl holding) hact, close]

end

/-! # What the arbiter decides (R90 to R92, R119 to R122, R171) -/

namespace Sys2Proof.Machine

/-! ### The decision that starts nothing -/

section Decision
variable {s : State}

/-- The table of R90 names no start: no job waits, and the latch, CFG.SCAN or the mask holds a scan back. -/
theorem State.namedStart_eq_none_iff (s : State) : s.namedStart = none ↔
    s.jobs = [] ∧ (s.attention.latch = false ∨ s.settings.scan = false ∨ s.attention.mask = true) := by
  unfold State.namedStart
  split
  next scans =>
    obtain ⟨⟨latch, scan⟩, mask⟩ :
        (s.attention.latch = true ∧ s.settings.scan = true) ∧ s.attention.mask = false := by simpa using scans
    split <;> simp [latch, scan, mask]
  next held =>
    have held : s.attention.latch = false ∨ s.settings.scan = false ∨ s.attention.mask = true := by
      simpa only [Bool.and_eq_true, Bool.not_eq_true', not_and_or, Bool.not_eq_true, Bool.not_eq_false, or_assoc]
        using held
    cases s.jobs <;> simp [held]

/-- The table of R90 names a scan for the latch alone. -/
theorem State.latch_of_namedStart_scan (h : s.namedStart = some .scan) : s.attention.latch = true := by
  unfold State.namedStart at h
  split at h
  next scans => simp_all
  next => split at h <;> cases h

theorem State.jobs_of_namedStart_job (h : s.namedStart = some .job) : ∃ j rest, s.jobs = j :: rest := by
  refine List.exists_cons_of_ne_nil fun hj => ?_
  simp [State.namedStart, hj] at h

/-- A named start with a slot free to it: the stall, if there was one, is over (R92). -/
def State.goAhead (s : State) (w : Start) : State := (s.setSeq { s.seq with stall := false }).carryOut w

/-- With no start named the arbiter does no more than end a stall (R90, R92). -/
theorem State.arbitrate_of_unnamed (idle : s.seq.state = .idle) (hn : s.namedStart = none) (fuel : Nat) :
    State.arbitrate (fuel + 1) s = { s with seq := { s.seq with stall := false } } := by
  rw [State.arbitrate, if_pos idle, hn]
  rfl

/-- A start is named and no slot is free: the arbiter stalls (R92). -/
theorem State.arbitrate_of_full {w : Start} (idle : s.seq.state = .idle) (hn : s.namedStart = some w)
    (full : s.freeSlots = 0) (fuel : Nat) :
    State.arbitrate (fuel + 1) s = { s with seq := { s.seq with stall := true } } := by
  rw [State.arbitrate, if_pos idle, hn]
  exact if_pos full

/-- A start is named and finds a slot: it is carried out, and the arbiter decides again (R90, log 20). -/
theorem State.arbitrate_of_room {w : Start} (idle : s.seq.state = .idle) (hn : s.namedStart = some w)
    (room : s.freeSlots ≠ 0) (fuel : Nat) : State.arbitrate (fuel + 1) s = State.arbitrate fuel (s.goAhead w) := by
  rw [State.arbitrate, if_pos idle, hn]
  exact if_neg room

end Decision

/-! ### The ASK latch and the end of a scan with no claimant (R119, R121, R128) -/

section Latch
variable {s : State}

/-- R119 applied: all that changes is the latch. -/
theorem State.judgeLatch_eq (s : State) : s.judgeLatch = { s with
    attention := { s.attention with
      latch := s.attention.latch ||
        (s.pins.askLine && s.settings.scan && !s.attention.mask && s.attention.scan.isNone) } } := by
  unfold State.judgeLatch
  split
  next h => rw [h, Bool.or_true]; rfl
  next h => rw [Bool.eq_false_iff.mpr h, Bool.or_false]

/-- The end of a scan with no claimant masks an asserted line, so that R119 leaves the latch as it is (R121, R128). -/
theorem State.endScanUnclaimed_eq (x : Scan) : s.endScanUnclaimed x = { s with
    attention := { s.attention with mask := s.attention.mask || s.pins.askLine, scan := none }
    seq := { s.seq with state := .idle, jobTurn := true }
    events := { s.events with
      held := s.events.held ++ [unclaimedEvent x s.attention.rotation]
      reserved := s.events.reserved.erase .scan } } := by
  unfold State.endScanUnclaimed State.leaveScan
  rw [State.judgeLatch_eq]
  cases hline : s.pins.askLine <;> simp [hline, State.setAttention, State.post, State.setSeq, State.setEvents]

/-- A scan that finds a station to visit begins its first visit (R123, R125). -/
theorem State.startScan_visits {i : StationIndex} (hbus : s.bus.activity = .free) (hi : s.chooseVisit [] = some i) :
    s.startScan = { s with
      seq := { s.seq with state := .scanning }
      events := { s.events with reserved := s.events.reserved ++ [.scan] }
      attention := { s.attention with
        latch := false
        scan := some { visited := [i], visits := 1, current := some i, claim := none } }
      exchange := some (statusExchange i)
      bus := s.bus.inClearing s.settings } := by
  unfold State.startScan
  dsimp only
  split
  next k hk =>
    obtain rfl : i = k := Option.some.inj (hi.symm.trans hk)
    rw [State.beginVisit, State.beginExchange_of_free (by exact hbus)]
    rfl
  next hk => cases hi.symm.trans hk

/-- A scan that finds none ends at its start, and its slot goes to its ASK event (R123, R128). -/
theorem State.startScan_unclaimed (hnone : s.chooseVisit [] = none) : s.startScan = { s with
    attention := { s.attention with latch := false, mask := s.attention.mask || s.pins.askLine, scan := none }
    seq := { s.seq with state := .idle, jobTurn := true }
    events := { s.events with
      held := s.events.held ++
        [unclaimedEvent { visited := [], visits := 0, current := none, claim := none } s.attention.rotation]
      reserved := (s.events.reserved ++ [Holder.scan]).erase Holder.scan } } := by
  unfold State.startScan
  dsimp only
  split
  next k hk => cases hnone.symm.trans hk
  next => exact State.endScanUnclaimed_eq _

end Latch

/-! ### What a job's start leaves alone -/

/-- What surrounds the job queue: what no start and no end of a job changes, and the tally of R115, in which a job
counts by its record or by its event. -/
structure Surroundings where
  stations : Vector Station Config.stationCount
  attention : Attention
  port : Port
  window : Window
  settings : Settings
  pins : Pins
  pending : List Instr
  tally : Nat

/-- The surroundings of a state's job queue. -/
def State.surroundings (s : State) : Surroundings :=
  { stations := s.stations, attention := s.attention, port := s.port, window := s.window, settings := s.settings,
    pins := s.pins, pending := s.pending, tally := s.jobTally }

section Surroundings
variable (s : State)

@[simp] theorem State.surroundings_setLink (i x) : (s.setLink i x).surroundings = s.surroundings := rfl
@[simp] theorem State.surroundings_setFreePages (x) : (s.setFreePages x).surroundings = s.surroundings := rfl
@[simp] theorem State.surroundings_setChan (c x) : (s.setChan c x).surroundings = s.surroundings := rfl
@[simp] theorem State.surroundings_mapActive (f) : (s.mapActive f).surroundings = s.surroundings := rfl
@[simp] theorem State.surroundings_beginExchange (e) : (s.beginExchange e).surroundings = s.surroundings := rfl

/-- A MOVER event is no JOB event (R131). -/
theorem Channel.stopRecord_not_job (ch : Channel) (c : Chan) (r : StopReason) : (ch.stopRecord c r).isJob = false := by
  cases r <;> rfl

@[simp] theorem State.surroundings_afterRunEnd (c r) : (s.afterRunEnd c r).surroundings = s.surroundings := by
  have tally : (s.afterRunEnd c r).jobTally = s.jobTally := by
    simp [State.jobTally, State.afterRunEnd, Channel.stopRecord_not_job]
  simp only [State.surroundings, tally]
  rfl

@[simp] theorem State.surroundings_stopChannel (c r) : (s.stopChannel c r).surroundings = s.surroundings := by
  rcases s.stopChannel_cases c r with ⟨-, h⟩ | ⟨-, -, h⟩ | ⟨-, -, h⟩ <;> rw [h]
  · exact s.surroundings_setChan c _
  · exact s.surroundings_afterRunEnd c r

@[simp] theorem State.surroundings_closeLink (i r) : (s.closeLink i r).surroundings = s.surroundings := by
  unfold State.closeLink; dsimp only; split
  · exact State.surroundings_stopChannel ..
  · rfl

@[simp] theorem State.surroundings_shutOpenLink (i) : (s.shutOpenLink i).surroundings = s.surroundings := by
  unfold State.shutOpenLink; dsimp only; split
  · exact State.surroundings_stopChannel ..
  · rfl

@[simp] theorem State.surroundings_cleanUp (i c) : (s.cleanUp i c).1.surroundings = s.surroundings := by
  cases c
  case close r => exact s.surroundings_closeLink i r
  all_goals rfl

/-- A record posted is counted, at whatever place it joins the queue (R135, R142). -/
theorem State.jobTally_postAmong (k h) (e : Event) : (s.postAmong k h e).jobTally = s.jobTally + bitVal e.isJob := by
  unfold State.postAmong
  split
  · simp [State.post, State.jobTally, List.countP_append, List.countP_singleton, bitVal, Nat.add_assoc]
  · have counted := (List.perm_insertIdx e s.events.held
      (Nat.sub_le _ (Config.postingOrder s.freeTick % (k + 1)))).countP_eq Event.isJob
    simp [State.jobTally, counted, List.countP_cons, bitVal, Nat.add_assoc]

/-- The job that leaves the queue is counted no longer (R87). -/
theorem State.jobTally_leaveQueue {j : Job} {rest : List Job} (hj : s.jobs = j :: rest) :
    s.leaveQueue.jobTally + 1 = s.jobTally := by
  rw [State.leaveQueue_eq (by simp [hj])]
  simp [State.jobTally, hj, Nat.add_right_comm]

theorem State.surroundings_postAmong (k h) (e : Event) :
    (s.postAmong k h e).surroundings = { s.surroundings with tally := (s.postAmong k h e).jobTally } := by
  unfold State.postAmong; split <;> rfl

theorem State.surroundings_leaveQueue :
    s.leaveQueue.surroundings = { s.surroundings with tally := s.leaveQueue.jobTally } := by
  unfold State.leaveQueue State.setQroomOnFall; split <;> rfl

/-- A job ends: its JOB event takes its place in the tally (R115). -/
@[simp] theorem State.surroundings_endJobSince (n r c) : (s.endJobSince n r c).surroundings = s.surroundings := by
  unfold State.endJobSince
  split
  · rfl
  next j x hact =>
    have cleaned := s.surroundings_cleanUp j.linkIndex c
    have jobs : (s.cleanUp j.linkIndex c).1.jobs = s.jobs := congrArg BusView.jobs (s.busView_cleanUp j.linkIndex c)
    obtain ⟨rest, hj⟩ := State.jobs_of_activeJob hact
    dsimp only
    generalize s.cleanUp j.linkIndex c = d at *
    generalize d.1.events.held.length - n = k
    have posted : (d.1.postAmong k .job (j.event x r d.2)).jobs = j :: rest :=
      (congrArg BusView.jobs (State.busView_postAmong ..)).trans (jobs.trans hj)
    have tally : (d.1.postAmong k .job (j.event x r d.2)).leaveQueue.jobTally = d.1.jobTally := by
      have left := State.jobTally_leaveQueue _ posted
      rw [State.jobTally_postAmong] at left
      exact Nat.succ.inj left
    rw [State.surroundings_leaveQueue, State.surroundings_postAmong, tally]
    exact cleaned

@[simp] theorem State.surroundings_endJob (r c) : (s.endJob r c).surroundings = s.surroundings :=
  s.surroundings_endJobSince _ r c

@[simp] theorem State.surroundings_startExchange (later) : (s.startExchange later).surroundings = s.surroundings := by
  rcases s.startExchange_cases later with ⟨r, h⟩ | ⟨e, -, h⟩ | h <;> simp [h]

@[simp] theorem State.surroundings_startOpen (j) : (s.startOpen j).surroundings = s.surroundings := by
  unfold State.startOpen; split
  · simp
  next t ht =>
    obtain ⟨-, -, -, rfl⟩ := State.openClaim_passed ht
    simp

@[simp] theorem State.surroundings_startShut (j) : (s.startShut j).surroundings = s.surroundings := by
  unfold State.startShut; split <;> simp

/-- A job starts (R93), and may end at its start. -/
@[simp] theorem State.surroundings_startJob : s.startJob.surroundings = s.surroundings := by
  unfold State.startJob; split
  · rfl
  next j _ _ =>
    dsimp only
    cases j.kind
    case openLink => exact State.surroundings_startOpen ..
    case shut => exact State.surroundings_startShut ..
    case busReset => rfl
    all_goals exact State.surroundings_startExchange ..

end Surroundings

/-! ### A decision settles the arbiter (R90, R92, log 20) -/

section Settles
variable {s : State}

/-- The arbiter has nothing left to do: it is not Idle, or it names no start and has no stall, or it names one, finds no
free slot and is stalled (R90, R92). -/
def State.Settled (s : State) : Prop :=
  s.seq.state ≠ .idle ∨ (s.namedStart = none ∧ s.seq.stall = false) ∨
    (s.namedStart.isSome = true ∧ s.freeSlots = 0 ∧ s.seq.stall = true)

/-- A bound on the starts that decisions can name before the first that does not end at its own event: one for each job
queued, and one for a scan while the latch is set. -/
def State.startsLeft (s : State) : Nat := s.jobs.length + bitVal s.attention.latch

/-- A job is under way at the head of the queue. -/
structure BusView.JobBegun (v : BusView) : Prop where
  active : v.active = true
  jobs : v.jobs ≠ []
  busy : v.seq ≠ .idle

/-- From the view `v` to the view `w` the sequencer has become Idle only with the end of the head job (R115). -/
def BusView.IdleByEnd (v w : BusView) : Prop := w.seq = .idle → w.jobs = v.jobs.tail

theorem State.endJob_idleByEnd (h : s.busView.JobBegun) (r : JobResult) (c : Cleanup) :
    s.busView.IdleByEnd (s.endJob r c).busView := fun _ => by
  rw [State.endJob, State.busView_endJobSince _ _ r c h.active h.jobs]

theorem State.startExchange_idleByEnd (h : s.busView.JobBegun) (later : Bool) :
    s.busView.IdleByEnd (s.startExchange later).busView := by
  rcases s.startExchange_cases later with ⟨r, eq⟩ | ⟨e, -, eq⟩ | eq <;> rw [eq]
  · exact State.endJob_idleByEnd h r .keep
  · exact fun idle => absurd idle h.busy
  · exact fun idle => absurd idle h.busy

theorem State.startOpen_idleByEnd (h : s.busView.JobBegun) (j : Job) : s.busView.IdleByEnd (s.startOpen j).busView := by
  unfold State.startOpen
  split
  · exact State.endJob_idleByEnd h _ _
  next t ht =>
    obtain ⟨-, -, -, rfl⟩ := State.openClaim_passed ht
    exact State.startExchange_idleByEnd (by exact h) false

theorem State.startShut_idleByEnd (h : s.busView.JobBegun) (j : Job) : s.busView.IdleByEnd (s.startShut j).busView := by
  unfold State.startShut
  split
  · have shut := State.startExchange_idleByEnd (s := s.shutOpenLink j.linkIndex)
      (by rwa [State.busView_shutOpenLink]) false
    rwa [State.busView_shutOpenLink] at shut
  · have closed := State.endJob_idleByEnd (s := s.mapActive fun x => { x with localClose := true })
      (by rwa [State.busView_mapActive]) .done (.close .shut)
    rwa [State.busView_mapActive] at closed
  · exact State.endJob_idleByEnd h _ _

/-- A start that leaves the sequencer Idle has taken its job off the queue (R93, R115). -/
theorem State.goAhead_job_idle {j : Job} {rest : List Job} (hj : s.jobs = j :: rest)
    (idle : (s.goAhead .job).seq.state = .idle) : (s.goAhead .job).jobs = rest := by
  have begun : s.afterStart.busView.JobBegun := ⟨rfl, by simp [State.afterStart, hj], by simp [State.afterStart]⟩
  have tail : s.afterStart.busView.jobs.tail = rest := congrArg List.tail hj
  have head : s.jobs.head? = some j := congrArg List.head? hj
  have start : s.goAhead .job = (s.setSeq { s.seq with stall := false }).startJob := rfl
  suffices s.afterStart.busView.IdleByEnd (s.goAhead .job).busView from (this idle).trans tail
  rw [start]
  cases hk : j.kind
  case openLink => rw [State.startJob_open head hk]; exact State.startOpen_idleByEnd begun j
  case shut => rw [State.startJob_shut head hk]; exact State.startShut_idleByEnd begun j
  case busReset =>
    rw [start, State.startJob_busReset head hk] at idle
    cases idle
  all_goals
    rw [State.startJob_exchange head (by simp [hk])]
    exact State.startExchange_idleByEnd begun false

/-- A scan that leaves the sequencer Idle found no station to visit (R123). -/
theorem State.startScan_idle (idle : s.startScan.seq.state = .idle) : s.chooseVisit [] = none := by
  unfold State.startScan at idle
  dsimp only at idle
  split at idle
  next => cases idle
  next hnone => exact hnone

/-- Each start that ends at its own event leaves fewer to name: a job has left the queue, or the latch is clear and
stays so behind the mask (R115, R121, R123). -/
theorem State.goAhead_startsLeft {w : Start} (hn : s.namedStart = some w) (idle : (s.goAhead w).seq.state = .idle) :
    (s.goAhead w).startsLeft < s.startsLeft := by
  cases w with
  | scan =>
    have latch := State.latch_of_namedStart_scan hn
    have none_left := State.startScan_idle (s := s.setSeq { s.seq with stall := false }) idle
    simp [State.goAhead, State.carryOut, State.startScan_unclaimed none_left, State.startsLeft, latch, bitVal]
  | job =>
    obtain ⟨j, rest, hj⟩ := State.jobs_of_namedStart_job hn
    have attention : (s.goAhead .job).attention = s.attention :=
      congrArg Surroundings.attention (State.surroundings_startJob _)
    simp [State.startsLeft, State.goAhead_job_idle hj idle, attention, hj]

/-- A settled arbiter changes nothing. -/
theorem State.Settled.arbitrate_eq (h : s.Settled) (fuel : Nat) : State.arbitrate fuel s = s := by
  cases fuel with
  | zero => rfl
  | succ fuel =>
    by_cases idle : s.seq.state = .idle
    · rcases h with busy | ⟨unnamed, stall⟩ | ⟨named, full, stall⟩
      · exact absurd idle busy
      · rw [State.arbitrate_of_unnamed idle unnamed, ← stall]
      · obtain ⟨w, hw⟩ := Option.isSome_iff_exists.mp named
        rw [State.arbitrate_of_full idle hw full, ← stall]
    · exact State.arbitrate_of_not_idle _ idle

/-- One decision settles the arbiter, or carries out a start and leaves the rest to the decisions after it. -/
theorem State.arbitrate_succ_cases (s : State) :
    (∃ t : State, t.Settled ∧ ∀ fuel, State.arbitrate (fuel + 1) s = t) ∨
      ∃ w, s.namedStart = some w ∧ ∀ fuel, State.arbitrate (fuel + 1) s = State.arbitrate fuel (s.goAhead w) := by
  by_cases idle : s.seq.state = .idle
  · cases hn : s.namedStart with
    | none =>
      refine .inl ⟨_, ?_, State.arbitrate_of_unnamed idle hn⟩
      exact .inr (.inl ⟨hn, rfl⟩)
    | some w =>
      by_cases full : s.freeSlots = 0
      · refine .inl ⟨_, ?_, State.arbitrate_of_full idle hn full⟩
        exact .inr (.inr ⟨Option.isSome_of_eq_some hn, full, rfl⟩)
      · exact .inr ⟨w, rfl, State.arbitrate_of_room idle hn full⟩
  · exact .inl ⟨s, .inl idle, fun fuel => State.arbitrate_of_not_idle _ idle⟩

/-- With more fuel than starts left the arbiter settles. -/
theorem State.arbitrate_settled {fuel : Nat} (h : s.startsLeft < fuel) : (State.arbitrate fuel s).Settled := by
  induction fuel generalizing s with
  | zero => cases h
  | succ fuel ih =>
    rcases s.arbitrate_succ_cases with ⟨t, settled, eq⟩ | ⟨w, named, eq⟩ <;> rw [eq]
    · exact settled
    · by_cases again : (s.goAhead w).seq.state = .idle
      · have fewer := State.goAhead_startsLeft named again
        exact ih (by omega)
      · rw [State.arbitrate_of_not_idle _ again]; exact .inl again

/-- Once the arbiter settles, more fuel changes nothing. -/
theorem State.arbitrate_succ_of_settled {fuel : Nat} (h : (State.arbitrate fuel s).Settled) :
    State.arbitrate (fuel + 1) s = State.arbitrate fuel s := by
  induction fuel generalizing s with
  | zero => exact State.Settled.arbitrate_eq h 1
  | succ fuel ih =>
    rcases s.arbitrate_succ_cases with ⟨t, -, eq⟩ | ⟨w, -, eq⟩ <;> rw [eq, eq] at *
    exact ih h

theorem State.startsLeft_lt (s : State) : s.startsLeft < s.jobs.length + 2 := by
  have := bitVal_le_one s.attention.latch
  simp only [State.startsLeft]
  omega

end Settles

/-! ### What a decision leaves alone -/

section DecisionFrame
variable (s : State)

/-- The start of a scan changes of the surroundings the attention unit alone, and so does a whole decision. -/
theorem State.surroundings_startScan :
    s.startScan.surroundings = { s.surroundings with attention := s.startScan.attention } := by
  cases hi : s.chooseVisit [] with
  | none =>
    rw [State.startScan_unclaimed hi]
    simp [State.surroundings, State.jobTally, unclaimedEvent, Event.isJob]
  | some i =>
    unfold State.startScan
    dsimp only
    split
    next => rfl
    next hnone => cases hi.symm.trans hnone

theorem State.surroundings_arbitrate (fuel) : (State.arbitrate fuel s).surroundings =
    { s.surroundings with attention := (State.arbitrate fuel s).attention } := by
  induction fuel generalizing s with
  | zero => rfl
  | succ fuel ih =>
    unfold State.arbitrate
    split
    · split
      · rfl
      next w _ =>
        split
        · rfl
        · rw [ih]
          cases w
          · rw [State.carryOut, State.surroundings_startScan]; rfl
          · rw [State.carryOut, State.surroundings_startJob]; rfl
    · rfl

theorem State.surroundings_decide : s.decide.surroundings = { s.surroundings with attention := s.decide.attention } :=
  s.surroundings_arbitrate _

@[simp] theorem State.decide_window : s.decide.window = s.window := congrArg Surroundings.window s.surroundings_decide
@[simp] theorem State.decide_settings : s.decide.settings = s.settings :=
  congrArg Surroundings.settings s.surroundings_decide

end DecisionFrame

/-! ### The decision that starts a scan (R90, R123, R128) -/

section ScanStart
variable {s : State}

theorem State.namedStart_scan (latch : s.attention.latch = true) (scan : s.settings.scan = true)
    (mask : s.attention.mask = false) (turn : s.seq.jobTurn = false ∨ s.jobs = []) : s.namedStart = some .scan := by
  rcases turn with turn | turn <;> simp [State.namedStart, latch, scan, mask, turn]

/-- The state after a scan that ended at its start with no station visited: its ASK event is posted, an asserted line is
masked, and the next turn is a job's (R123, R128). -/
def State.afterEmptyScan (s : State) : State := { s with
  seq := { s.seq with state := .idle, stall := false, jobTurn := true }
  events := { s.events with
    held := s.events.held ++ [
      { kind := .unclaimed, source := BitVec.ofNat 8 s.attention.rotation.val, result := .code .done, count := 0,
        detail := 0, flags := 0 }] }
  attention := { s.attention with latch := false, mask := s.pins.askLine, scan := none } }

theorem State.goAhead_scan_unclaimed (mask : s.attention.mask = false) (reserved : Holder.scan ∉ s.events.reserved)
    (hnone : s.chooseVisit [] = none) : s.goAhead .scan = s.afterEmptyScan := by
  have slot : (s.events.reserved ++ [Holder.scan]).erase .scan = s.events.reserved := by
    simp [List.erase_append_right _ reserved]
  rw [State.goAhead, State.carryOut, State.startScan_unclaimed (by exact hnone)]
  simp [State.afterEmptyScan, unclaimedEvent, mask, slot, State.setSeq]

/-- A scan that finds no station ends at its own event, and the arbiter decides again (R128, log 20). -/
theorem State.decide_of_empty_scan (idle : s.seq.state = .idle) (named : s.namedStart = some .scan)
    (mask : s.attention.mask = false) (room : s.events.held.length + s.events.reserved.length < 16)
    (reserved : Holder.scan ∉ s.events.reserved) (hnone : s.chooseVisit [] = none) :
    s.decide = s.afterEmptyScan.decide := by
  have settled : (State.arbitrate (s.jobs.length + 1) s.afterEmptyScan).Settled :=
    State.arbitrate_settled (Nat.lt_succ_self _)
  calc s.decide = State.arbitrate (s.jobs.length + 1) (s.goAhead .scan) := State.decide_of_named idle named room
    _ = State.arbitrate (s.jobs.length + 1) s.afterEmptyScan := by rw [State.goAhead_scan_unclaimed mask reserved hnone]
    _ = s.afterEmptyScan.decide := (State.arbitrate_succ_of_settled settled).symm

end ScanStart

/-! ### Writes of CFG (R119, R120, R171) -/

/-- The state a write of CFG leaves for the arbiter: a clear SCAN clears the latch, a set SCAN applies R119. -/
def State.cfgWritten (s : State) (v : Byte) : State := { s with
  settings := { s.settings with clocked := v.getLsbD 0, scan := v.getLsbD 1, step := v.getLsbD 2 }
  attention := { s.attention with
    latch := v.getLsbD 1 && (s.attention.latch ||
      (s.pins.askLine && !s.attention.mask && s.attention.scan.isNone)) } }

theorem State.writeCfg_eq (s : State) (v : Byte) : s.writeCfg v = (s.cfgWritten v).decide := by
  unfold State.writeCfg State.cfgWritten
  refine congrArg State.decide ?_
  dsimp only
  rw [State.judgeLatch_eq]
  generalize v.getLsbD 1 = scan
  cases scan
  · rfl
  · simp [State.setSettings]

theorem State.dataWrite_cfg {s : State} (hr : regOfIndex s.window.index = some .cfg) (v : Byte) : s.dataWrite v =
    { (s.cfgWritten v).decide with window := s.window.afterTaken (v.getLsbD 2) } := by
  have stored : s.dataWrite v = ((s.cfgWritten v).decide.taken).autoStep := by
    rw [State.dataWrite, hr, ← State.writeCfg_eq]; rfl
  have step : (s.cfgWritten v).settings.step = v.getLsbD 2 := rfl
  have window : (s.cfgWritten v).window = s.window := rfl
  simp only [stored, State.autoStep_eq, State.taken, State.setWindow, State.decide_settings, State.decide_window, step,
    window, Window.afterAccess, Window.afterTaken]

end Sys2Proof.Machine

section
open Sys2Proof Sys2Proof.Machine

/-- Settles O20: the three ways a decision starts nothing. -/
theorem arbiterStartsNothing : Obligations.ArbiterStartsNothing := by
  intro s
  refine ⟨s.decide_of_not_idle, fun idle hj hscan => ?_, fun idle hstart full => ?_⟩
  · exact State.arbitrate_of_unnamed idle (s.namedStart_eq_none_iff.mpr ⟨hj, hscan⟩) _
  · have named : s.namedStart ≠ none := fun h => by
      obtain ⟨hj, hscan⟩ := s.namedStart_eq_none_iff.mp h
      rcases hstart with hstart | ⟨latch, scan, mask⟩
      · exact hstart hj
      · simp [latch, scan, mask] at hscan
    obtain ⟨w, hw⟩ := Option.ne_none_iff_exists'.mp named
    exact State.arbitrate_of_full idle hw (s.freeSlots_eq_zero_iff.mpr full) _

/-- Settles O24: each start that ends at its own event leaves fewer to name, so the fuel of a decision suffices. -/
theorem decisionSettles : Obligations.DecisionSettles := fun s => State.arbitrate_settled s.startsLeft_lt

/-- Settles O21: a scan begins its first visit, or ends at its start, and then the arbiter decides again. -/
theorem arbiterStartsScan : Obligations.ArbiterStartsScan := by
  refine ⟨?visits, ?alone, ?queued⟩
  case visits =>
    intro s i idle hbus latch scan mask turn room hi
    have start : s.goAhead .scan = _ := State.startScan_visits (s := s.setSeq { s.seq with stall := false }) hbus hi
    rw [State.decide_of_named idle (State.namedStart_scan latch scan mask turn) room, ← State.goAhead,
      State.arbitrate_of_not_idle _ (by rw [start]; simp), start]
    rfl
  case alone =>
    intro s idle hj latch scan mask room reserved absent
    have named := State.namedStart_scan latch scan mask (.inr hj)
    have hnone : s.chooseVisit [] = none := (s.chooseVisit_eq_none_iff _).mpr fun i _ => absent i
    rw [State.decide_of_empty_scan idle named mask room reserved hnone]
    exact State.decide_of_quiet (State.namedStart_of_quiet hj rfl) rfl
  case queued =>
    intro s idle _ turn latch scan mask room reserved absent
    have named := State.namedStart_scan latch scan mask (.inl turn)
    have hnone : s.chooseVisit [] = none := (s.chooseVisit_eq_none_iff _).mpr fun i _ => absent i
    exact State.decide_of_empty_scan idle named mask room reserved hnone

/-- Settles O28: R119 applied changes the latch alone. -/
theorem askLineAndRearm : Obligations.AskLineAndRearm := by
  refine ⟨fun s => ⟨fun line => ?asserted, rfl⟩,
    fun s hs => ⟨fun scanning => ?scanning, fun watching => ?watching⟩⟩
  case asserted =>
    refine congrArg Host.Outcome.next ?_
    rw [State.askAsserted, line, if_neg Bool.false_ne_true, State.judgeLatch_eq]
    rfl
  case scanning => exact onWindow_next hs (if_pos scanning)
  case watching =>
    refine onWindow_next (f := (·.askRearm)) hs ((if_neg (by simp [watching])).trans ?_)
    rw [State.judgeLatch_eq]
    simp [State.setAttention, State.taken_eq, watching]

/-- Settles O6: the write is stored before the decision, which leaves the settings and the window alone. -/
theorem cfgWriteResult : Obligations.CfgWriteResult := fun s v hs hindex =>
  onWindow_next (f := (·.dataWrite v)) hs (State.dataWrite_cfg (by rw [hindex]; rfl) v)

end

/-! # Commands of the window: refusals, POST, POP and PURGE (R84, R85, R88, R111, R136, R140, R175, R176) -/

namespace Sys2Proof.Machine

/-- A byte that is no command code reaches no block (R175). -/
theorem State.commandWrite_unknown {v : Byte} (h : isCommandCode v = false) (s : State) :
    s.commandWrite v = s.refuse .unknownCommand := by
  unfold State.commandWrite
  split
  case h_13 => rfl
  all_goals next code => simp [isCommandCode, code] at h

/-! ### The record POST fills (R84, R85, R179) -/

section Posting
variable {g : Settings} {j : Job} {k : JobKind} {v : Byte}

/-- A kind of job and the code it has (R179). -/
theorem jobKindOfCode_eq_some_iff : jobKindOfCode v = some k ↔ v.toNat = k.code := by
  unfold jobKindOfCode
  constructor
  · intro h
    split at h <;> cases h <;> assumption
  · intro h
    rw [h]; cases k <;> rfl

/-- The eight codes of R179. -/
theorem jobKindOfCode_isSome_iff : (jobKindOfCode v).isSome = true ↔ 1 ≤ v.toNat ∧ v.toNat ≤ 8 := by
  unfold jobKindOfCode
  split
  case h_9 => exact ⟨nofun, fun ⟨low, high⟩ => by grind⟩
  all_goals next code => simp [code]

theorem Settings.stagedLimit_toNat (g : Settings) : g.stagedLimit.toNat = 256 * g.jLimitH.toNat + g.jLimitL.toNat := by
  have := g.jLimitH.isLt
  have := g.jLimitL.isLt
  simp only [Settings.stagedLimit, BitVec.toNat_ofNat]
  omega

/-- The staged record passes POST's checks when the fields its kind uses are in range (R84, R85). -/
theorem Settings.stagedJob_valid_iff (hk : g.jKind.toNat = k.code) : (g.stagedJob k).valid = true ↔
    (g.jKind.toNat ∈ [1, 2, 3, 4] → g.jLink.toNat < 12) ∧
    (g.jKind.toNat ∈ [1, 5, 6] → g.jStation.toNat < 14) ∧
    (g.jKind = 1 → 1 ≤ g.jPages.toNat ∧ g.jPages.toNat ≤ 8) ∧
    (g.jKind.toNat ∈ [3, 4] → 1 ≤ 256 * g.jLimitH.toNat + g.jLimitL.toNat) := by
  have opener : g.jKind = 1 ↔ k.code = 1 := by rw [← hk, ← BitVec.toNat_inj]; rfl
  have limit : (g.stagedJob k).limitOk = true ↔ 1 ≤ 256 * g.jLimitH.toNat + g.jLimitL.toNat := by
    rw [← Settings.stagedLimit_toNat, Nat.one_le_iff_ne_zero, Job.limitOk, bne_iff_ne, ne_eq, ne_eq,
      ← BitVec.toNat_inj]
    rfl
  have link : (g.stagedJob k).linkOk = true ↔ g.jLink.toNat < 12 := by simp [Job.linkOk, Settings.stagedJob]
  have station : (g.stagedJob k).stationOk = true ↔ g.jStation.toNat < 14 := by
    simp [Job.stationOk, Settings.stagedJob]
  have pages : (g.stagedJob k).pagesOk = true ↔ 1 ≤ g.jPages.toNat ∧ g.jPages.toNat ≤ 8 := by
    simp [Job.pagesOk, Settings.stagedJob]
  have kind : (g.stagedJob k).kind = k := rfl
  rw [Job.valid, kind, hk, opener]
  cases k <;> simp [JobKind.code, link, station, pages, limit, and_assoc]

/-- The staged job, when its kind is a code and it passes the checks (R85). -/
theorem Settings.postedJob_eq_some_iff : g.postedJob = some j ↔
    ∃ k, g.jKind.toNat = k.code ∧ (g.stagedJob k).valid = true ∧ g.stagedJob k = j := by
  simp only [← jobKindOfCode_eq_some_iff]
  unfold Settings.postedJob
  cases jobKindOfCode g.jKind <;> simp

theorem Settings.postedJob_isSome_iff : g.postedJob.isSome = true ↔
    ∃ k, g.jKind.toNat = k.code ∧ (g.stagedJob k).valid = true := by
  simp only [Option.isSome_iff_exists, Settings.postedJob_eq_some_iff]
  grind

/-- The channel and the direction of the record are the two parts of J-CHAN (R84). -/
theorem Settings.stagedJob_endpoint (g : Settings) (k : JobKind) :
    (g.stagedJob k).channel.toNat = g.jChan.toNat % 8 ∧ ((g.stagedJob k).dir = .input ↔ 8 ≤ g.jChan.toNat) := by
  refine ⟨BitVec.toNat_setWidth .., ?_⟩
  have bit : g.jChan.getLsbD 3 = true ↔ 8 ≤ g.jChan.toNat := by
    rw [← BitVec.msb_eq_getLsbD_last (x := g.jChan), BitVec.msb_eq_decide]
    exact decide_eq_true_iff
  rw [← bit]
  show dirOfBit (g.jChan.getLsbD 3) = .input ↔ _
  cases g.jChan.getLsbD 3 <;> simp [dirOfBit]

end Posting

/-! ### PURGE (R87, R88) -/

section Purge
variable {s : State}

/-- PURGE keeps the Active job alone, the head of the queue (R86, R88). -/
theorem State.keptJobs_eq (s : State) : s.keptJobs = s.jobs.take (bitVal s.active.isSome) := by
  unfold State.keptJobs
  cases s.active <;> rfl

theorem State.keptJobs_length (h : s.QueueLaw) : s.keptJobs.length = bitVal s.active.isSome := by
  rw [State.keptJobs_eq, List.length_take, min_eq_left]
  cases ha : s.active.isSome with
  | false => exact Nat.zero_le _
  | true => exact List.length_pos_of_ne_nil (h.2 ha)

/-- A level that is below 8 after an event has fallen from 8 exactly when it was 8 before (R87). -/
theorem State.setQroomOnFall_of_room {n m : Nat} (few : m < Config.jobLimit) : s.setQroomOnFall n m =
    { s with events := { s.events with qroom := s.events.qroom || n == Config.jobLimit } } := by
  unfold State.setQroomOnFall
  by_cases h : n = Config.jobLimit
  · simp [h, few, State.setEvents]
  · rw [if_neg fun fall => h fall.1, beq_eq_false_iff_ne.mpr h, Bool.or_false]

/-- PURGE before the arbiter decides: QROOM is set exactly at a fall from 8 (R87). -/
theorem State.purgeJobs_eq (h : s.QueueLaw) : s.purgeJobs = State.decide { s with
    jobs := s.jobs.take (bitVal s.active.isSome)
    events := { s.events with qroom := s.events.qroom || s.jobs.length == 8 }
    window := { s.window with cmdErr := false, purged := s.jobs.length - bitVal s.active.isSome } } := by
  have few : s.keptJobs.length < Config.jobLimit := by
    have := bitVal_le_one s.active.isSome
    rw [State.keptJobs_length h, Config.jobLimit]
    omega
  rw [State.purgeJobs, State.setQroomOnFall_of_room few, State.keptJobs_length h, State.keptJobs_eq]
  rfl

end Purge

/-- INT is asserted while an event held is enabled by its class, or the QROOM latch is (R139, R140). -/
theorem State.intLine_iff (s : State) : s.intLine = true ↔
    (∃ e ∈ s.events.held, s.settings.enables e.kind = true) ∨
      (s.events.qroom = true ∧ s.settings.intQroom = true) := by
  simp [State.intLine]

end Sys2Proof.Machine

section
open Sys2Proof Sys2Proof.Machine

/-- Settles O12: a byte without a code reaches no block, and ABORT looks at the sequencer's state. -/
theorem refusedCommands : Obligations.RefusedCommands := by
  refine ⟨fun s v hs hv => ?unknown, fun s r hs hr => ?abort⟩
  case unknown =>
    have unknown : isCommandCode v = false := by simpa [Instr.wellFormed] using hv
    exact onWindow_next (f := (·.commandWrite v)) hs (State.commandWrite_unknown unknown s)
  case abort =>
    refine onWindow_next (f := (·.abortJob)) hs ?_
    simp only [List.mem_cons, Prod.mk.injEq, List.not_mem_nil, or_false] at hr
    rcases hr with ⟨hq, rfl⟩ | ⟨hq, rfl⟩ | ⟨hq, rfl⟩ | ⟨hq, rfl⟩ <;> rw [State.abortJob, hq] <;> rfl

/-- Settles O16: the staged record passes POST's checks by its kind, and POST goes by the record and the room. -/
theorem postResult : Obligations.PostResult := by
  refine ⟨fun g => ⟨?checks, fun j hj => ?fields⟩,
    fun s j hs => ⟨fun bad => ?bad, fun good => ⟨fun full => ?full, fun room => ?posted⟩⟩⟩
  case checks =>
    rw [Settings.postedJob_isSome_iff, ← jobKindOfCode_isSome_iff, Option.isSome_iff_exists]
    simp only [jobKindOfCode_eq_some_iff]
    constructor
    · rintro ⟨k, hk, valid⟩
      exact ⟨⟨k, hk⟩, (Settings.stagedJob_valid_iff hk).mp valid⟩
    · rintro ⟨⟨k, hk⟩, ranges⟩
      exact ⟨k, hk, (Settings.stagedJob_valid_iff hk).mpr ranges⟩
  case fields =>
    obtain ⟨k, hk, -, rfl⟩ := Settings.postedJob_eq_some_iff.mp hj
    obtain ⟨channel, dir⟩ := g.stagedJob_endpoint k
    exact ⟨hk.symm, rfl, rfl, rfl, channel, dir, rfl, g.stagedLimit_toNat⟩
  case bad => exact onWindow_next hs (by rw [State.postJob, bad]; rfl)
  case full => exact onWindow_next hs (by rw [State.postJob, good]; exact if_pos full)
  case posted => exact onWindow_next hs (by rw [State.postJob, good]; exact if_neg (Nat.not_le.mpr room))

/-- Settles O17: POP goes by the head of the event queue, PURGE keeps what the queue's law says is the Active job, and
INT looks at every event held. -/
theorem popAndPurgeResult : Obligations.PopAndPurgeResult := by
  refine ⟨fun s e rest hs => ⟨fun empty => ?empty, fun held => ?popped⟩, fun s hs law => ?purge, fun s => ?line⟩
  case empty => exact onWindow_next hs (by rw [State.popEvent, empty]; rfl)
  case popped => exact onWindow_next hs (by rw [State.popEvent, held]; rfl)
  case purge => exact onWindow_next hs (State.purgeJobs_eq law)
  case line =>
    rw [State.intLine_iff]
    refine or_congr_left (exists_congr fun e => and_congr_right fun _ => ?_)
    cases e.kind <;> rfl

end

/-! # The tally of jobs and JOB events (R115)

`State.jobTally` counts a job by its record in the queue and then by its JOB event. Most operations touch neither; the
end of a job trades the one for the other (`State.surroundings_endJobSince`). -/

namespace Sys2Proof.Machine

section Tally
variable (s : State)

/-! ### Operations with no part in the queue of jobs or of events -/

@[simp] theorem State.jobTally_setBus (x) : (s.setBus x).jobTally = s.jobTally := rfl
@[simp] theorem State.jobTally_setExchange (x) : (s.setExchange x).jobTally = s.jobTally := rfl
@[simp] theorem State.jobTally_setLinks (x) : (s.setLinks x).jobTally = s.jobTally := rfl
@[simp] theorem State.jobTally_setActive (x) : (s.setActive x).jobTally = s.jobTally := rfl
@[simp] theorem State.jobTally_setSeq (x) : (s.setSeq x).jobTally = s.jobTally := rfl
@[simp] theorem State.jobTally_setAttention (x) : (s.setAttention x).jobTally = s.jobTally := rfl
@[simp] theorem State.jobTally_setFreeTick (x) : (s.setFreeTick x).jobTally = s.jobTally := rfl
@[simp] theorem State.jobTally_setSeqState (q) : (s.setSeqState q).jobTally = s.jobTally := rfl
@[simp] theorem State.jobTally_taken : s.taken.jobTally = s.jobTally := rfl
@[simp] theorem State.jobTally_refuse (r) : (s.refuse r).jobTally = s.jobTally := rfl
@[simp] theorem State.jobTally_readBack (v) : (s.readBack v).jobTally = s.jobTally := rfl
@[simp] theorem State.jobTally_busToFree : s.busToFree.jobTally = s.jobTally := rfl
@[simp] theorem State.jobTally_startCut : s.startCut.jobTally = s.jobTally := rfl
@[simp] theorem State.jobTally_sendFrame (a f) : (s.sendFrame a f).jobTally = s.jobTally := rfl
@[simp] theorem State.jobTally_mapActive (f) : (s.mapActive f).jobTally = s.jobTally := rfl
@[simp] theorem State.jobTally_reportStation (i f) : (s.reportStation i f).jobTally = s.jobTally := rfl
@[simp] theorem State.jobTally_beginVisit (x i) : (s.beginVisit x i).jobTally = s.jobTally := rfl
@[simp] theorem State.jobTally_enterHandback (e) : (s.enterHandback e).jobTally = s.jobTally := rfl
@[simp] theorem State.jobTally_enterInbound (e) : (s.enterInbound e).jobTally = s.jobTally := rfl
@[simp] theorem State.jobTally_sendTest (e) : (s.sendTest e).jobTally = s.jobTally := rfl
@[simp] theorem State.jobTally_startRun (c) : (s.startRun c).jobTally = s.jobTally := rfl

@[simp] theorem State.jobTally_judgeLatch : s.judgeLatch.jobTally = s.jobTally := by
  rw [State.judgeLatch_eq]; rfl

@[simp] theorem State.jobTally_clearAttention : s.clearAttention.jobTally = s.jobTally := by
  rw [State.clearAttention_eq]; rfl

@[simp] theorem State.jobTally_mapJobLink (f) : (s.mapJobLink f).jobTally = s.jobTally := by
  unfold State.mapJobLink; split <;> rfl

@[simp] theorem State.jobTally_putBackByte (e) : (s.putBackByte e).jobTally = s.jobTally := by
  rw [State.putBackByte_eq]; rfl

@[simp] theorem State.jobTally_failureReports (e o) : (s.failureReports e o).jobTally = s.jobTally := by
  rw [State.failureReports_eq]; rfl

@[simp] theorem State.jobTally_cutForJob : s.cutForJob.jobTally = s.jobTally := by
  rw [State.cutForJob_eq]; rfl

@[simp] theorem State.jobTally_goodPhase (e) : (s.goodPhase e).jobTally = s.jobTally := by
  rw [State.goodPhase_eq]; rfl

@[simp] theorem State.jobTally_reportPace (i f) : (s.reportPace i f).jobTally = s.jobTally := by
  unfold State.reportPace; dsimp only; split <;> rfl

@[simp] theorem State.jobTally_recordVisit (e o) : (s.recordVisit e o).jobTally = s.jobTally := by
  unfold State.recordVisit; split <;> split <;> rfl

@[simp] theorem State.jobTally_recordClaim (e v) : (s.recordClaim e v).jobTally = s.jobTally := by
  unfold State.recordClaim; split
  · split <;> rfl
  · rfl

@[simp] theorem State.jobTally_startMove (c) : (s.startMove c).jobTally = s.jobTally := by
  unfold State.startMove; dsimp only; split
  · rfl
  · split <;> rfl

@[simp] theorem State.jobTally_nextMove : s.nextMove.jobTally = s.jobTally := by
  unfold State.nextMove; split
  · split <;> simp
  · rfl

@[simp] theorem State.jobTally_autoStep : s.autoStep.jobTally = s.jobTally := by
  rw [State.autoStep_eq]; rfl

@[simp] theorem State.jobTally_readEffect (r) : (s.readEffect r).jobTally = s.jobTally := by
  unfold State.readEffect; split <;> rfl

@[simp] theorem State.jobTally_dataRead : s.dataRead.jobTally = s.jobTally := by
  unfold State.dataRead; dsimp only; split <;> simp

@[simp] theorem State.jobTally_portRead : s.portRead.jobTally = s.jobTally := by
  unfold State.portRead; split <;> rfl

@[simp] theorem State.jobTally_portWrite (v) : (s.portWrite v).jobTally = s.jobTally := by
  unfold State.portWrite; split <;> rfl

@[simp] theorem State.jobTally_portMark : s.portMark.jobTally = s.jobTally := by
  unfold State.portMark; split <;> rfl

@[simp] theorem State.jobTally_portSkip : s.portSkip.jobTally = s.jobTally := by
  unfold State.portSkip; split <;> rfl

@[simp] theorem State.jobTally_noPattern : s.noPattern.jobTally = s.jobTally := by
  unfold State.noPattern; split <;> rfl

@[simp] theorem State.jobTally_answerTenthBit : s.answerTenthBit.jobTally = s.jobTally := by
  unfold State.answerTenthBit; split <;> rfl

/-! ### Postings of the mover, which are no JOB events (R131) -/

@[simp] theorem State.jobTally_endRun (c r) : (s.endRun c r).jobTally = s.jobTally := by
  rw [State.endRun_eq_afterRunEnd]; exact congrArg Surroundings.tally (s.surroundings_afterRunEnd c r)

@[simp] theorem State.jobTally_stopChannel (c r) : (s.stopChannel c r).jobTally = s.jobTally :=
  congrArg Surroundings.tally (s.surroundings_stopChannel c r)

@[simp] theorem State.jobTally_finishMove (m v) : (s.finishMove m v).1.jobTally = s.jobTally := by
  unfold State.finishMove; dsimp only; split <;> split <;> rfl

@[simp] theorem State.jobTally_afterClaim (m f) : (s.afterClaim m f).jobTally = f.1.jobTally := by
  unfold State.afterClaim; dsimp only; split
  · exact State.jobTally_endRun ..
  · rfl

@[simp] theorem State.jobTally_moveCompletion (v) : (s.moveCompletion v).jobTally = s.jobTally := by
  unfold State.moveCompletion; split
  · simp [State.completeMove_eq]
  · rfl

@[simp] theorem State.jobTally_moverStart (c) : (s.moverStart c).jobTally = s.jobTally := by
  unfold State.moverStart; split <;> simp

@[simp] theorem State.jobTally_moverStop (c) : (s.moverStop c).jobTally = s.jobTally := by
  unfold State.moverStop; split <;> simp

@[simp] theorem State.jobTally_loseLinks : s.loseLinks.jobTally = s.jobTally := by
  unfold State.loseLinks; dsimp only; split
  · split <;> simp
  all_goals simp

@[simp] theorem State.jobTally_resetByPulse : s.resetByPulse.jobTally = s.jobTally := by
  rw [State.resetByPulse, State.jobTally_clearAttention, State.jobTally_loseLinks]; rfl

/-! ### Postings of scans, which are no JOB events (R131) -/

@[simp] theorem State.jobTally_endScanClaimed (x i v r) : (s.endScanClaimed x i v r).jobTally = s.jobTally := by
  simp only [State.endScanClaimed, State.leaveScan, State.jobTally_judgeLatch]
  simp [State.jobTally, State.post, claimedEvent, Event.isJob]

@[simp] theorem State.jobTally_endScanUnclaimed (x) : (s.endScanUnclaimed x).jobTally = s.jobTally := by
  rw [State.endScanUnclaimed_eq]
  simp [State.jobTally, unclaimedEvent, Event.isJob]

@[simp] theorem State.jobTally_endVisit (o) : (s.endVisit o).jobTally = s.jobTally := by
  unfold State.endVisit; split
  · rfl
  · dsimp only; split
    · simp
    · split <;> simp

@[simp] theorem State.jobTally_nextVisit : s.nextVisit.jobTally = s.jobTally := by
  unfold State.nextVisit; split
  · rfl
  · split <;> simp

/-! ### The work of jobs and the arbiter -/

@[simp] theorem State.jobTally_endJobSince (n r c) : (s.endJobSince n r c).jobTally = s.jobTally :=
  congrArg Surroundings.tally (s.surroundings_endJobSince n r c)

@[simp] theorem State.jobTally_endJob (r c) : (s.endJob r c).jobTally = s.jobTally := s.jobTally_endJobSince _ r c

@[simp] theorem State.jobTally_startExchange (later) : (s.startExchange later).jobTally = s.jobTally :=
  congrArg Surroundings.tally (s.surroundings_startExchange later)

@[simp] theorem State.jobTally_decide : s.decide.jobTally = s.jobTally :=
  congrArg Surroundings.tally s.surroundings_decide

@[simp] theorem State.jobTally_settle (t) : (State.settle s t).jobTally = t.jobTally := by
  unfold State.settle; split <;> simp

@[simp] theorem State.jobTally_busyOutcome (j x) : (s.busyOutcome j x).jobTally = s.jobTally := by
  unfold State.busyOutcome; dsimp only; split
  · simp
  · split <;> simp

@[simp] theorem State.jobTally_dataComplete (j x) : (s.dataComplete j x).jobTally = s.jobTally := by
  unfold State.dataComplete; split <;> simp

@[simp] theorem State.jobTally_endCensusVisit (e o x) : (s.endCensusVisit e o x).jobTally = s.jobTally := by
  unfold State.endCensusVisit; dsimp only; split <;> simp

/-- An exchange's outcome reaches its job, and may end it (R94). -/
@[simp] theorem State.jobTally_jobOutcome (e o) : (s.jobOutcome e o).jobTally = s.jobTally := by
  unfold State.jobOutcome; split
  · rfl
  next j x _ =>
    dsimp only
    split
    · simp
    · split
      · simp
      · simp
      · split <;> simp
      · simp

@[simp] theorem State.jobTally_endExchange (e o) : (s.endExchange e o).jobTally = s.jobTally := by
  unfold State.endExchange; dsimp only; split <;> simp

@[simp] theorem State.jobTally_endCut (e) : (s.endCut e).jobTally = s.jobTally := by
  unfold State.endCut; dsimp only; split
  · simp
  · simp
  · split
    · simp
    · split <;> simp
  · simp

@[simp] theorem State.jobTally_failExchange (e o) : (s.failExchange e o).jobTally = s.jobTally := by
  simp [State.failExchange]

@[simp] theorem State.jobTally_cutExchange (e) : (s.cutExchange e).jobTally = s.jobTally := by
  simp [State.cutExchange]

/-! ### The steps of an exchange -/

@[simp] theorem State.jobTally_sendPutByte (e) : (s.sendPutByte e).jobTally = s.jobTally := by
  unfold State.sendPutByte; split
  · rfl
  · split <;> simp

@[simp] theorem State.jobTally_takeHandback (e) : (s.takeHandback e).jobTally = s.jobTally := by
  unfold State.takeHandback; split
  · rfl
  · split
    · simp
    · split
      · simp
      · split <;> simp
      · simp

@[simp] theorem State.jobTally_takeAnswer (e a) : (s.takeAnswer e a).jobTally = s.jobTally := by
  unfold State.takeAnswer; dsimp only; split
  · simp
  · split
    · simp
    · split <;> simp

@[simp] theorem State.jobTally_takeFrame (e v m) : (s.takeFrame e v m).jobTally = s.jobTally := by
  unfold State.takeFrame; split
  · simp [State.takeStatus]
  · unfold State.takeData; dsimp only; split <;> simp
  · rfl

@[simp] theorem State.jobTally_putByteSent (e m) : (s.putByteSent e m).jobTally = s.jobTally := by
  unfold State.putByteSent; dsimp only; split <;> simp

@[simp] theorem State.jobTally_testSent (e) : (s.testSent e).jobTally = s.jobTally := by
  unfold State.testSent; dsimp only; split
  · simp
  · split <;> simp

@[simp] theorem State.jobTally_takeAck (e) : (s.takeAck e).jobTally = s.jobTally := by
  unfold State.takeAck; split
  · split <;> simp
  · split <;> simp

@[simp] theorem State.jobTally_takeNak (e) : (s.takeNak e).jobTally = s.jobTally := by
  unfold State.takeNak; split <;> simp

/-- A report keeps the tally when what it does to its exchange does. -/
theorem State.jobTally_onReport (w : Bool) {f : Exchange → State} (hf : ∀ e, (f e).jobTally = s.jobTally) :
    (s.onReport w f).jobTally = s.jobTally := by
  unfold State.onReport; split
  · split
    · rw [State.jobTally_settle, hf]
    · rfl
  · rfl

@[simp] theorem State.jobTally_cutCompletion : s.cutCompletion.jobTally = s.jobTally := by
  unfold State.cutCompletion; split
  · split <;> simp
  · rfl

@[simp] theorem State.jobTally_pulseCompletion : s.pulseCompletion.jobTally = s.jobTally := by
  unfold State.pulseCompletion; split <;> simp

@[simp] theorem State.jobTally_busyDelayEnd : s.busyDelayEnd.jobTally = s.jobTally := by
  unfold State.busyDelayEnd; split <;> simp

@[simp] theorem State.jobTally_nextStep : s.nextStep.jobTally = s.jobTally := by
  unfold State.nextStep; split
  · split <;> simp
  · simp
  · rfl

/-! ### The window, the commands and the lines -/

theorem State.jobTally_writeMoverReg {s t : State} {c : Chan} {r : MoverReg} {v : Byte}
    (h : s.writeMoverReg c r v = .stored t) : t.jobTally = s.jobTally := by
  unfold State.writeMoverReg at h
  dsimp only at h
  split at h
  · cases h
  · split at h
    · cases h
    · split at h
      case h_1 => split at h <;> cases h; rfl
      all_goals cases h <;> rfl

theorem State.jobTally_writeReg {s t : State} {r : Reg} {v : Byte} (h : s.writeReg r v = .stored t) :
    t.jobTally = s.jobTally := by
  cases r
  case cfg =>
    obtain rfl : s.writeCfg v = t := WriteFate.stored.inj h
    rw [State.writeCfg_eq, State.jobTally_decide]; rfl
  case mover c m => exact State.jobTally_writeMoverReg h
  case sSel | lSel | pLink =>
    simp only [State.writeReg] at h
    split at h <;> cases h
    rfl
  all_goals cases h <;> rfl

@[simp] theorem State.jobTally_dataWrite (v) : (s.dataWrite v).jobTally = s.jobTally := by
  unfold State.dataWrite; dsimp only; rw [State.jobTally_autoStep]; split
  · rfl
  · split
    next u h => exact State.jobTally_writeReg (t := u) h
    · rfl
    · rfl

@[simp] theorem State.jobTally_abortNow : s.abortNow.jobTally = s.jobTally := by
  unfold State.abortNow; split <;> simp

@[simp] theorem State.jobTally_abortJob : s.abortJob.jobTally = s.jobTally := by
  unfold State.abortJob; split
  case h_6 => split <;> simp
  all_goals simp

@[simp] theorem State.jobTally_askRearm : s.askRearm.jobTally = s.jobTally := by
  unfold State.askRearm; split <;> simp

@[simp] theorem State.jobTally_askAsserted : s.askAsserted.jobTally = s.jobTally := by
  unfold State.askAsserted; split
  · rfl
  · rw [State.jobTally_decide, State.jobTally_judgeLatch]; rfl

end Tally

/-- An access that keeps the tally keeps it at the window, which takes it whole or not at all (R169). -/
theorem onWindow_jobTally {f : State → State} {s t : State} (hf : (f s).jobTally = s.jobTally)
    (ht : onWindow f s = .next t) : t.jobTally = s.jobTally := by
  rcases onWindow_cases f s with ⟨-, eq⟩ | ⟨-, eq⟩ <;> rw [eq] at ht <;> cases ht
  · exact hf
  · rfl

theorem next_jobTally {s t u : State} (ht : (Host.Outcome.next u : Host.Outcome State Fault Refusal) = .next t)
    (hu : u.jobTally = s.jobTally) : t.jobTally = s.jobTally := by
  cases ht; exact hu

end Sys2Proof.Machine

section
open Sys2Proof Sys2Proof.Machine

/-- Settles O59: every command but these keeps the tally, since the end of a job posts its JOB event. -/
theorem jobTallyIsKept : Obligations.JobTallyIsKept := by
  intro c s t hc hwf ht
  cases c with
  | post | pop | purge | softReset | pinReset => simp at hc
  | indexWrite v => exact onWindow_jobTally (f := fun t => t.setWindow { t.window with index := v.setWidth 6 }) rfl ht
  | statusRead =>
    exact onWindow_jobTally (f := fun t => (t.setEvents { t.events with qroom := false }).readBack t.statusByte) rfl ht
  | cfgWrite v | intEnWrite v | sSelWrite v | lSelWrite v | pLinkWrite v | maLinkWrite v | registerWrite v =>
    exact onWindow_jobTally (f := (·.dataWrite v)) (s.jobTally_dataWrite v) ht
  | lCountLRead | lTotalLRead | maAddrLRead | maCountLRead | pFlagsRead | dataRead =>
    exact onWindow_jobTally s.jobTally_dataRead ht
  | portRead => exact onWindow_jobTally s.jobTally_portRead ht
  | portWrite v => exact onWindow_jobTally (f := (·.portWrite v)) (s.jobTally_portWrite v) ht
  | portMark => exact onWindow_jobTally s.jobTally_portMark ht
  | portSkip => exact onWindow_jobTally s.jobTally_portSkip ht
  | moverStart c => exact onWindow_jobTally (f := (·.moverStart c)) (s.jobTally_moverStart c) ht
  | moverStop c => exact onWindow_jobTally (f := (·.moverStop c)) (s.jobTally_moverStop c) ht
  | abort => exact onWindow_jobTally s.jobTally_abortJob ht
  | askRearm => exact onWindow_jobTally s.jobTally_askRearm ht
  | unknownCommand v =>
    have unknown := State.commandWrite_unknown (v := v) (by simpa [Instr.wellFormed] using hwf) s
    exact onWindow_jobTally (f := (·.commandWrite v)) (by rw [unknown]; rfl) ht
  | askLineAsserted => exact next_jobTally ht s.jobTally_askAsserted
  | askLineReleased => exact next_jobTally ht (State.jobTally_decide _)
  | bgntGiven => exact next_jobTally ht (State.jobTally_nextMove _)
  | bgntWithdrawn => exact next_jobTally ht rfl
  | byteMoveCompletion v => exact next_jobTally ht (s.jobTally_moveCompletion v)
  | linesReleased => exact next_jobTally ht (s.jobTally_onReport _ fun e => rfl)
  | ackRead => exact next_jobTally ht (s.jobTally_onReport _ fun e => by simp)
  | nakRead | nakGiven => exact next_jobTally ht (s.jobTally_onReport _ s.jobTally_takeNak)
  | answerReceived d m => exact next_jobTally ht (s.jobTally_onReport _ fun e => s.jobTally_takeAnswer e _)
  | frameReceived d m => exact next_jobTally ht (s.jobTally_onReport _ fun e => s.jobTally_takeFrame e d m)
  | handback => exact next_jobTally ht (s.jobTally_onReport _ s.jobTally_takeHandback)
  | stbEdgeInHandback => exact next_jobTally ht (s.jobTally_onReport _ fun e => by split <;> simp)
  | answerTimeout => exact next_jobTally ht (s.jobTally_onReport _ fun e => by simp)
  | frameTimeout | turnError => exact next_jobTally ht (s.jobTally_onReport _ fun e => s.jobTally_failExchange e _)
  | cutCompletion => exact next_jobTally ht s.jobTally_cutCompletion
  | pulseCompletion => exact next_jobTally ht s.jobTally_pulseCompletion
  | busyDelayEnd => exact next_jobTally ht s.jobTally_busyDelayEnd
  | nextStep => exact next_jobTally ht s.jobTally_nextStep
  | noPattern => exact next_jobTally ht s.jobTally_noPattern
  | answerTenthBit => exact next_jobTally ht s.jobTally_answerTenthBit

end

/-!
### The order of the visits of a scan (R124)

The rotation order lists the stations by their distance `i - start` from the rotation start, so the first station that
meets a condition is the nearest one that meets it.
-/

namespace Sys2Proof.Machine

section VisitOrder
variable {s : State} {visited : List StationIndex} {i : StationIndex}

/-- The rotation order goes by growing distance from its start. -/
theorem rotationOrder_pairwise_distance (start : StationIndex) :
    (rotationOrder start).Pairwise fun i k => i - start ≤ k - start := by
  refine List.pairwise_map.mpr (List.pairwise_lt_range.imp_of_mem fun {a b} ha hb hab => ?_)
  have hda : a % Config.stationCount = a := Nat.mod_eq_of_lt (List.mem_range.mp ha)
  have hdb : b % Config.stationCount = b := Nat.mod_eq_of_lt (List.mem_range.mp hb)
  simpa [Fin.le_def, hda, hdb] using hab.le

/-- In a list ordered by `r`, the first element that meets `p` comes before every element that does. -/
theorem find?_rel_of_pairwise {α : Type} {r : α → α → Prop} {p : α → Bool} {l : List α} {a b : α} (refl : r a a)
    (hl : l.Pairwise r) (ha : l.find? p = some a) (hb : b ∈ l) (hp : p b = true) : r a b := by
  obtain ⟨-, before, after, rfl, hbefore⟩ := List.find?_eq_some_iff_append.mp ha
  obtain hb | hb := List.mem_append.mp hb
  · simpa [hp] using hbefore b hb
  · obtain rfl | hb := List.mem_cons.mp hb
    · exact refl
    · exact List.rel_of_pairwise_cons (List.pairwise_append.mp hl).2.1 hb

/-- The first unvisited station in rotation order that meets a condition is the nearest one to the rotation start. -/
theorem find?_unvisited_nearest {start k : StationIndex} {p : StationIndex → Bool}
    (hi : ((rotationOrder start).filter fun k => !visited.contains k).find? p = some i) (hk : k ∉ visited)
    (hp : p k = true) : i - start ≤ k - start :=
  find?_rel_of_pairwise (r := fun i k => i - start ≤ k - start) le_rfl
    ((rotationOrder_pairwise_distance start).filter _) hi
    (List.mem_filter.mpr ⟨mem_rotationOrder .., by simpa using hk⟩) hp

/-- The two steps of the choice: the nearest station asking, and with none asking the nearest one not Absent. -/
theorem State.chooseVisit_nearest (h : s.chooseVisit visited = some i) :
    ((s.station i).askPending = true ∧ ∀ k ∉ visited, (s.station k).askPending = true →
      i - s.attention.rotation ≤ k - s.attention.rotation) ∨
    ((∀ k ∉ visited, (s.station k).askPending = false) ∧ (s.station i).presence ≠ .absent ∧
      ∀ k ∉ visited, (s.station k).presence ≠ .absent → i - s.attention.rotation ≤ k - s.attention.rotation) := by
  unfold State.chooseVisit at h
  dsimp only at h
  split at h
  next j hask =>
    have first := hask.trans h
    have asking := List.find?_some (p := fun k => (s.station k).askPending) first
    exact .inl ⟨asking, fun k hk hp => find?_unvisited_nearest first hk hp⟩
  next hnone =>
    refine .inr ⟨fun k hk => ?_, by simpa using List.find?_some h,
      fun k hk hp => find?_unvisited_nearest h hk (by simpa using hp)⟩
    simpa using List.find?_eq_none.mp hnone k (List.mem_filter.mpr ⟨mem_rotationOrder .., by simpa using hk⟩)

/-- The distance from the rotation start, by station numbers. -/
theorem StationIndex.distance_val (start i : StationIndex) :
    (i - start).val = (i.val + 14 - start.val) % 14 := by
  have hstart : start.val ≤ 14 := start.isLt.le
  change (14 - start.val + i.val) % 14 = _
  rw [← Nat.sub_add_comm hstart, Nat.add_comm]

end VisitOrder

end Sys2Proof.Machine

section
open Sys2Proof Sys2Proof.Machine

/-- Settles O26: in each step of the choice the station named is the nearest one to the rotation start. -/
theorem visitChoiceOrder : Obligations.VisitChoiceOrder := by
  refine fun s visited => ⟨fun i hi => ⟨s.chooseVisit_unvisited hi, ?_⟩, s.chooseVisit_eq_none_iff visited⟩
  simp only [← StationIndex.distance_val, ← Fin.le_def]
  obtain ⟨asking, nearest⟩ | ⟨quiet, present, nearest⟩ := s.chooseVisit_nearest hi
  · exact ⟨.inl asking, fun k hk hp => nearest k hk (by simpa [asking] using hp)⟩
  · exact ⟨.inr ⟨present, quiet⟩, fun k hk hp =>
      nearest k hk (hp.elim (fun ask => absurd ask (by simp [quiet k hk])) And.right)⟩

end


/-! # MOVER-STOP and the completion of a byte move (R160, R163 to R167) -/

namespace Sys2Proof.Machine

/-! ### What the end of a byte move leaves (R160, R165) -/

section Completion
variable {s t : State} {c : Chan} {p : Option Cell} {v : Byte} {marked : Bool}

/-- After a completion the run ends with the reason, or with none it goes on (R165, R167). -/
def State.endRunFor (s : State) (c : Chan) (r : Option StopReason) : State := r.elim s (s.afterRunEnd c)

/-- The completion of the move in progress is its claim's answer, then the next byte boundary (R160). -/
theorem State.moveCompletion_eq (hm : s.mover.move = some { chan := c, popped := p }) :
    s.moveCompletion v =
      (s.afterClaim { chan := c, popped := p } (s.finishMove { chan := c, popped := p } v)).nextMove := by
  simp only [State.moveCompletion, hm, State.completeMove_eq]

/-- A claim's answer gives the channel its new value, ends the move, and may end the run. -/
theorem State.afterClaim_eq (x : Channel) (taken : Bool)
    (hx : (if taken then (s.chan c).counted else s.chan c) = x) :
    s.afterClaim { chan := c, popped := p } (t, taken, marked) =
      ((t.setChan c x).setMover { (t.setChan c x).mover with move := none }).endRunFor c
        (x.completionEnd taken marked) := by
  simp only [State.afterClaim, hx]
  cases x.completionEnd taken marked with
  | none => rfl
  | some r => exact State.endRun_eq_afterRunEnd ..

/-- A claim that was taken is counted before the end of the run is judged (R160, R165). -/
theorem State.afterClaim_taken (hc : t.chan c = s.chan c) :
    s.afterClaim { chan := c, popped := p } (t, true, marked) =
      (t.afterCounted c).endRunFor c ((s.chan c).counted.completionEnd true marked) := by
  rw [State.afterClaim_eq (s.chan c).counted true rfl, ← hc]
  rfl

theorem Mover.setChan_chan (m : Mover) (c : Chan) : m.setChan c (m.chan c) = m := by cases c <;> rfl

/-- A claim that was refused counts nothing, and the run ends with a pending stop alone (R160, R166). -/
theorem State.afterClaim_refused :
    s.afterClaim { chan := c, popped := p } (s, false, marked) =
      State.endRunFor { s with mover := { s.mover with move := none } } c (s.chan c).stopPending := by
  have same : s.setChan c (s.chan c) = s := congrArg s.setMover (s.mover.setChan_chan c)
  have ends : (s.chan c).completionEnd false marked = (s.chan c).stopPending := by
    cases h : (s.chan c).stopPending <;> simp [Channel.completionEnd, Channel.naturalEnd, h]
  rw [State.afterClaim_eq (s.chan c) false rfl, same, ends]
  rfl

end Completion

/-! ### How a run ends at a completion (R163 to R166) -/

section Ends
variable {ch : Channel} {marked : Bool} {r : StopReason}

/-- The count that falls to 0 was 1. -/
theorem Word16.sub_one_eq_zero_iff (w : Word16) : w - 1#16 = 0#16 ↔ w = 1#16 := sub_eq_zero

theorem Channel.completionEnd_pending (h : ch.stopPending = some r) :
    ch.counted.completionEnd true marked = some r := by
  simp [Channel.completionEnd, Channel.counted, h]

/-- With no stop pending, MARK comes before COUNT (R165). -/
theorem Channel.completionEnd_natural (h : ch.stopPending = none) :
    ch.counted.completionEnd true marked =
      if ch.dir = .input ∧ ch.mode = true ∧ marked = true then some .mark
      else if ch.count = 1 then some .count else none := by
  simp [Channel.completionEnd, Channel.counted, Channel.naturalEnd, h, Word16.sub_one_eq_zero_iff, and_assoc]

end Ends

/-! ### The two kinds of move -/

section Kinds
variable {s : State} {c : Chan} {v : Byte}

/-- An IN channel's move writes the byte it popped (R160, R163). -/
theorem State.moveCompletion_input {cell : Cell} (hm : s.mover.move = some { chan := c, popped := some cell })
    (dir : (s.chan c).dir = .input) :
    s.moveCompletion v = ((State.afterCounted
      { s with pins := { s.pins with hostWrite := some { addr := (s.chan c).addr, data := cell.byte } } } c).endRunFor c
        ((s.chan c).counted.completionEnd true cell.marked)).nextMove := by
  rw [State.moveCompletion_eq hm]
  simp only [State.finishMove, dir]
  rw [State.afterClaim_taken (by rfl)]
  rfl

/-- An OUT channel's push claim that is taken appends the byte, with a mark at the end of a MARK-AT-END run (R164). -/
theorem State.moveCompletion_pushed (hm : s.mover.move = some { chan := c, popped := none })
    (dir : (s.chan c).dir = .output) (allowed : (s.link (s.chan c).link).pushAllowed (some c) = true)
    (room : (s.link (s.chan c).link).ring.length < 256 * (s.link (s.chan c).link).pages.length) :
    s.moveCompletion v = (((s.setLink (s.chan c).link
      ((s.link (s.chan c).link).append v ((s.chan c).mode && (s.chan c).count == 1))).afterCounted c).endRunFor c
        ((s.chan c).counted.completionEnd true false)).nextMove := by
  rw [State.moveCompletion_eq hm]
  simp only [State.finishMove, dir, Link.push_room allowed room]
  rw [State.afterClaim_taken (by rfl)]

/-- An OUT channel's push claim that is refused drops the byte (R160, log 15). -/
theorem State.moveCompletion_dropped (hm : s.mover.move = some { chan := c, popped := none })
    (dir : (s.chan c).dir = .output)
    (refused : ¬((s.link (s.chan c).link).pushAllowed (some c) = true ∧
      (s.link (s.chan c).link).ring.length < 256 * (s.link (s.chan c).link).pages.length)) :
    s.moveCompletion v =
      (State.endRunFor { s with mover := { s.mover with move := none } } c (s.chan c).stopPending).nextMove := by
  rw [State.moveCompletion_eq hm]
  simp only [State.finishMove, dir]
  by_cases allowed : (s.link (s.chan c).link).pushAllowed (some c) = true
  · rw [Link.push_full allowed (not_lt.mp fun room => refused ⟨allowed, room⟩), State.afterClaim_refused]
  · rw [Link.push_denied allowed, State.afterClaim_refused]

end Kinds

end Sys2Proof.Machine

section
open Sys2Proof.Machine

/-- Settles O31: a MOVER-STOP of a Running channel is the outside stop with COMMAND. -/
theorem moverStopResult : Obligations.MoverStopResult := by
  refine fun s c hs => ⟨fun idle => ?_, fun running still => ?_, fun running moves => ?_⟩ <;>
    refine onWindow_next (f := (·.moverStop c)) hs ?_ <;> unfold State.moverStop
  · rw [if_neg (by simp [idle])]; rfl
  · rw [if_pos running, State.stopChannel_of_still running still]; rfl
  · rw [if_pos running, State.stopChannel_of_moving running moves]; rfl

/-- Settles O33: each completion is its claim's answer, and the end of the run is judged by R165 and R166. -/
theorem byteMoveCompletionResult : Obligations.ByteMoveCompletionResult := by
  refine ⟨fun s c cell v r hm dir => ?input, ?output⟩
  case input =>
    have done := State.moveCompletion_input (v := v) hm dir
    refine ⟨fun pending plain more => ?_, fun ends => ?_⟩ <;> refine congrArg _ (done.trans ?_)
    · rw [Channel.completionEnd_natural pending, if_neg (fun h => plain h.2), if_neg more]; rfl
    · obtain pending | ⟨pending, mode, mark, rfl⟩ | ⟨pending, plain, last, rfl⟩ := ends
      · rw [Channel.completionEnd_pending pending]; rfl
      · rw [Channel.completionEnd_natural pending, if_pos ⟨dir, mode, mark⟩]; rfl
      · rw [Channel.completionEnd_natural pending, if_neg (fun h => plain h.2), if_pos last]; rfl
  case output =>
    rintro s c l v r hm dir rfl
    refine ⟨fun ⟨out, state, holder, room⟩ => ?_, fun refused => ?_⟩
    · have allowed := (Link.pushAllowed_iff_mem _ _).mpr ⟨out, state, holder⟩
      have done := State.moveCompletion_pushed (v := v) hm dir allowed room
      refine ⟨fun pending more => ?_, fun ends => ?_⟩ <;> refine congrArg _ (done.trans ?_)
      · have more' : ((s.chan c).count == 1) = false := by simpa using more
        rw [Channel.completionEnd_natural pending, if_neg (by simp), if_neg more, more', Bool.and_false]; rfl
      · obtain pending | ⟨pending, last, rfl⟩ := ends
        · rw [Channel.completionEnd_pending pending]; rfl
        · rw [Channel.completionEnd_natural pending, if_neg (by simp), if_pos last]; rfl
    · have done := State.moveCompletion_dropped (v := v) hm dir (by
        rwa [Link.pushAllowed_iff_mem, and_assoc, and_assoc])
      refine ⟨fun pending => ?_, fun pending => ?_⟩ <;> refine congrArg _ (done.trans ?_) <;> rw [pending] <;> rfl

end

/-! # What the law of event slots looks at (R133, R134, R135)

A holder keeps a reservation while it has something to post for: the Active job, the scan in progress, a Running
channel. `State.slotView` gathers this with the level of the event queue and the channel whose byte is moving. The law
then rests on two changes: a holder takes a slot (`SlotView.take`) and gives it up for its event (`SlotView.give`). -/

namespace Sys2Proof.Machine

/-! ### The view -/

/-- The parts of the state that the law of event slots speaks of. -/
structure SlotView where
  held : Nat
  reserved : List Holder
  holds : Holder → Bool
  moving : Option Chan

/-- The holder has an event to post (R134): the Active job, the scan in progress, a Running channel. -/
def State.holds (s : State) : Holder → Bool
  | .job => s.active.isSome
  | .scan => s.attention.scan.isSome
  | .channel c => (s.chan c).running

/-- The view of a state. -/
def State.slotView (s : State) : SlotView :=
  { held := s.events.held.length, reserved := s.events.reserved, holds := s.holds
    moving := s.mover.move.map (·.chan) }

/-- The law of event slots, on the view. -/
structure SlotView.Lawful (v : SlotView) : Prop where
  nodup : v.reserved.Nodup
  room : v.held + v.reserved.length ≤ Config.eventSlots
  holders : ∀ h, h ∈ v.reserved ↔ v.holds h = true
  moving : ∀ c, v.moving = some c → v.holds (.channel c) = true

theorem State.moving_iff (s : State) (c : Chan) : s.moving c = true ↔ s.slotView.moving = some c := by
  unfold State.moving
  cases hm : s.mover.move <;> simp [State.slotView, hm]

/-- The view's law is the law of event slots. -/
theorem State.slotView_lawful_iff (s : State) : s.slotView.Lawful ↔ s.SlotLaw := by
  have channels (p : Chan → Prop) : (∀ c ∈ [Chan.a, Chan.b], p c) ↔ ∀ c, p c :=
    ⟨fun h c => h c (by cases c <;> simp), fun h c _ => h c⟩
  unfold State.SlotLaw
  simp only [channels, State.moving_iff]
  constructor
  · exact fun ⟨nodup, room, holders, moving⟩ =>
      ⟨nodup, room, holders .job, holders .scan, fun c => holders (.channel c), moving⟩
  · exact fun ⟨nodup, room, job, scan, channel, moving⟩ =>
      ⟨nodup, room, fun | .job => job | .scan => scan | .channel c => channel c, moving⟩

namespace SlotView
variable {v : SlotView} {h : Holder}

/-- A holder takes a slot (R134). -/
def take (v : SlotView) (h : Holder) : SlotView :=
  { v with reserved := v.reserved ++ [h], holds := Function.update v.holds h true }

/-- A holder gives up its slot for its event (R135). -/
def give (v : SlotView) (h : Holder) : SlotView :=
  { v with held := v.held + 1, reserved := v.reserved.erase h, holds := Function.update v.holds h false }

/-- A holder takes a slot only while one is free, and holds no other (R133, R134). -/
theorem Lawful.take (law : v.Lawful) (new : v.holds h = false) (free : v.held + v.reserved.length < Config.eventSlots) :
    (v.take h).Lawful where
  nodup := by
    have absent : h ∉ v.reserved := fun mem => by simp [(law.holders h).mp mem] at new
    exact (List.perm_append_singleton h v.reserved).nodup_iff.mpr (List.nodup_cons.mpr ⟨absent, law.nodup⟩)
  room := by simp only [SlotView.take, List.length_append, List.length_singleton]; omega
  holders k := by
    by_cases hk : k = h
    · simp [SlotView.take, hk]
    · simp [SlotView.take, hk, law.holders k]
  moving c hc := by
    by_cases hk : Holder.channel c = h
    · simp [SlotView.take, hk]
    · simpa [SlotView.take, hk] using law.moving c hc

/-- A holder's event takes the slot it held (R135); a channel does not end its run during its byte move (R166). -/
theorem Lawful.give (law : v.Lawful) (holding : v.holds h = true)
    (still : ∀ c, h = .channel c → v.moving ≠ some c) : (v.give h).Lawful where
  nodup := law.nodup.erase h
  room := by
    have mem := (law.holders h).mpr holding
    have pos := List.length_pos_of_mem mem
    have room := law.room
    simp only [SlotView.give, List.length_erase_of_mem mem]
    omega
  holders k := by
    by_cases hk : k = h
    · simp [SlotView.give, hk, law.nodup.not_mem_erase]
    · simp [SlotView.give, hk, List.mem_erase_of_ne hk, law.holders k]
  moving c hc := by
    have hk : Holder.channel c ≠ h := fun e => still c e.symm hc
    simpa [SlotView.give, hk] using law.moving c hc

/-- A byte move begins on a channel that runs, or ends. -/
theorem Lawful.withMoving (law : v.Lawful) {m : Option Chan} (hm : ∀ c, m = some c → v.holds (.channel c) = true) :
    SlotView.Lawful { v with moving := m } := ⟨law.nodup, law.room, law.holders, hm⟩

/-- Events leave the queue (R136). -/
theorem Lawful.withHeld (law : v.Lawful) {n : Nat} (hn : n ≤ v.held) : SlotView.Lawful { v with held := n } where
  nodup := law.nodup
  room := le_trans (Nat.add_le_add_right hn _) law.room
  holders := law.holders
  moving := law.moving

end SlotView

/-! ### Holders that come and go -/

section Holders
variable (s : State)

/-- What one holder holds is replaced by what it holds. -/
theorem State.slotView_update (h : Holder) :
    { s.slotView with holds := Function.update s.slotView.holds h (s.holds h) } = s.slotView :=
  congrArg (fun f => { s.slotView with holds := f }) (Function.update_eq_self h s.holds)

theorem State.slotView_setActive (x : Option JobContext) : (s.setActive x).slotView =
    { s.slotView with holds := Function.update s.slotView.holds .job x.isSome } :=
  congrArg (fun f => { s.slotView with holds := f }) (funext fun h => by cases h <;> rfl)

theorem State.slotView_setAttention (x : Attention) : (s.setAttention x).slotView =
    { s.slotView with holds := Function.update s.slotView.holds .scan x.scan.isSome } :=
  congrArg (fun f => { s.slotView with holds := f }) (funext fun h => by cases h <;> rfl)

theorem State.chan_setChan (c : Chan) (x : Channel) : (s.setChan c x).chan = Function.update s.chan c x :=
  congrArg Tables.chan (s.tables_setChan c x)

theorem State.slotView_setChan (c : Chan) (x : Channel) : (s.setChan c x).slotView =
    { s.slotView with holds := Function.update s.slotView.holds (.channel c) x.running } := by
  have holds : (s.setChan c x).holds = Function.update s.holds (.channel c) x.running := funext fun h => by
    cases h with
    | job | scan => rfl
    | channel d => by_cases hd : d = c <;> simp [State.holds, State.chan_setChan, hd]
  have move : (s.setChan c x).mover.move = s.mover.move := by cases c <;> rfl
  simp only [State.slotView, holds, move]; rfl

/-- A mover record whose channels run as they did. -/
theorem State.slotView_setMover (x : Mover) (runs : ∀ c, (x.chan c).running = (s.chan c).running) :
    (s.setMover x).slotView = { s.slotView with moving := x.move.map (·.chan) } := by
  have holds : (s.setMover x).holds = s.holds := funext fun
    | .job | .scan => rfl
    | .channel c => runs c
  simp only [State.slotView, holds]; rfl

theorem State.slotView_reserve (h : Holder) : (s.reserve h).slotView =
    { s.slotView with reserved := s.slotView.reserved ++ [h] } := rfl

/-- A posting in a holder's own slot, wherever it joins the queue (R135, R142). -/
theorem State.slotView_postAmong (k : Nat) (h : Holder) (e : Event) : (s.postAmong k h e).slotView =
    { s.slotView with held := s.slotView.held + 1, reserved := s.slotView.reserved.erase h } := by
  unfold State.postAmong
  split
  · exact congrArg (fun n => SlotView.mk n _ _ _) List.length_append
  · exact congrArg (fun n => SlotView.mk n _ _ _) (List.length_insertIdx_of_le_length (Nat.sub_le ..) e)

theorem State.slotView_post (h : Holder) (e : Event) : (s.post h e).slotView =
    { s.slotView with held := s.slotView.held + 1, reserved := s.slotView.reserved.erase h } :=
  s.slotView_postAmong 0 h e

end Holders

/-! ### Operations that leave the view as it was -/

section Unchanged
variable (s : State)

@[simp] theorem State.slotView_setBus (x) : (s.setBus x).slotView = s.slotView := rfl
@[simp] theorem State.slotView_setExchange (x) : (s.setExchange x).slotView = s.slotView := rfl
@[simp] theorem State.slotView_setJobs (x) : (s.setJobs x).slotView = s.slotView := rfl
@[simp] theorem State.slotView_setSeq (x) : (s.setSeq x).slotView = s.slotView := rfl
@[simp] theorem State.slotView_setSeqState (x) : (s.setSeqState x).slotView = s.slotView := rfl
@[simp] theorem State.slotView_setWindow (x) : (s.setWindow x).slotView = s.slotView := rfl
@[simp] theorem State.slotView_setLink (i x) : (s.setLink i x).slotView = s.slotView := rfl
@[simp] theorem State.slotView_taken : s.taken.slotView = s.slotView := rfl
@[simp] theorem State.slotView_readBack (v) : (s.readBack v).slotView = s.slotView := rfl
@[simp] theorem State.slotView_reportStation (i f) : (s.reportStation i f).slotView = s.slotView := rfl
@[simp] theorem State.slotView_returnPages (p) : (s.returnPages p).slotView = s.slotView := rfl
@[simp] theorem State.slotView_busToFree : s.busToFree.slotView = s.slotView := rfl
@[simp] theorem State.slotView_startCut : s.startCut.slotView = s.slotView := rfl
@[simp] theorem State.slotView_sendFrame (a f) : (s.sendFrame a f).slotView = s.slotView := rfl
@[simp] theorem State.slotView_beginExchange (e) : (s.beginExchange e).slotView = s.slotView := rfl
@[simp] theorem State.slotView_enterHandback (e) : (s.enterHandback e).slotView = s.slotView := rfl
@[simp] theorem State.slotView_enterInbound (e) : (s.enterInbound e).slotView = s.slotView := rfl

/-- A new job context for an Active job, and none for none. -/
theorem State.slotView_setActive_same {x : Option JobContext} (h : x.isSome = s.active.isSome) :
    (s.setActive x).slotView = s.slotView := by
  rw [State.slotView_setActive, h]; exact State.slotView_update s .job

/-- A new value for the attention unit that scans exactly when the old one did. -/
theorem State.slotView_setAttention_same {x : Attention} (h : x.scan.isSome = s.attention.scan.isSome) :
    (s.setAttention x).slotView = s.slotView := by
  rw [State.slotView_setAttention, h]; exact State.slotView_update s .scan

theorem State.setActive_slots {s : State} (h : s.slotView.Lawful) {x : Option JobContext}
    (hx : x.isSome = s.active.isSome) : (s.setActive x).slotView.Lawful :=
  (s.slotView_setActive_same hx).symm ▸ h

theorem State.setAttention_slots {s : State} (h : s.slotView.Lawful) {x : Attention}
    (hx : x.scan.isSome = s.attention.scan.isSome) : (s.setAttention x).slotView.Lawful :=
  (s.slotView_setAttention_same hx).symm ▸ h

/-- A new value for a channel that runs exactly when the old one did. -/
theorem State.slotView_setChan_same {c : Chan} {x : Channel} (h : x.running = (s.chan c).running) :
    (s.setChan c x).slotView = s.slotView := by
  rw [State.slotView_setChan, h]; exact State.slotView_update s (.channel c)

@[simp] theorem State.slotView_mapActive (f) : (s.mapActive f).slotView = s.slotView :=
  s.slotView_setActive_same Option.isSome_map

@[simp] theorem State.slotView_judgeLatch : s.judgeLatch.slotView = s.slotView := by
  rw [State.judgeLatch_eq]; exact s.slotView_setAttention_same rfl

@[simp] theorem State.slotView_clearAttention : s.clearAttention.slotView = s.slotView := by
  rw [State.clearAttention, State.slotView_judgeLatch]; exact s.slotView_setAttention_same rfl

@[simp] theorem State.slotView_mapJobLink (f) : (s.mapJobLink f).slotView = s.slotView := by
  unfold State.mapJobLink; split <;> rfl

@[simp] theorem State.slotView_putBackByte (e) : (s.putBackByte e).slotView = s.slotView := by
  rw [State.putBackByte_eq]; rfl

@[simp] theorem State.slotView_reportPace (i f) : (s.reportPace i f).slotView = s.slotView := by
  unfold State.reportPace; dsimp only; split <;> simp

@[simp] theorem State.slotView_failureReports (e o) : (s.failureReports e o).slotView = s.slotView := by
  unfold State.failureReports; split
  · simp
  · split <;> simp

@[simp] theorem State.slotView_cutForJob : s.cutForJob.slotView = s.slotView := by
  rw [State.cutForJob_eq]; rfl

@[simp] theorem State.slotView_goodPhase (e) : (s.goodPhase e).slotView = s.slotView := by
  rw [State.goodPhase_eq]; rfl

@[simp] theorem State.slotView_recordVisit (e o) : (s.recordVisit e o).slotView = s.slotView := by
  unfold State.recordVisit; split <;> split <;> simp

@[simp] theorem State.slotView_recordClaim (e v) : (s.recordClaim e v).slotView = s.slotView := by
  unfold State.recordClaim; split
  case h_1 hx _ => split <;> simp [State.slotView_setAttention_same, hx]
  case h_2 => rfl

@[simp] theorem State.slotView_setQroomOnFall (m n) : (s.setQroomOnFall m n).slotView = s.slotView := by
  unfold State.setQroomOnFall; split <;> rfl

@[simp] theorem State.slotView_failExchange (e o) : (s.failExchange e o).slotView = s.slotView := by
  simp [State.failExchange]

@[simp] theorem State.slotView_cutExchange (e) : (s.cutExchange e).slotView = s.slotView := by
  simp [State.cutExchange]

@[simp] theorem State.slotView_sendPutByte (e) : (s.sendPutByte e).slotView = s.slotView := by
  unfold State.sendPutByte; split
  · rfl
  · split <;> simp

@[simp] theorem State.slotView_takeAnswer (e a) : (s.takeAnswer e a).slotView = s.slotView := by
  unfold State.takeAnswer; dsimp only; split
  · simp
  · split
    · simp
    · split <;> simp

@[simp] theorem State.slotView_takeData (e v m) : (s.takeData e v m).slotView = s.slotView := by
  unfold State.takeData; dsimp only; split <;> simp

@[simp] theorem State.slotView_takeStatus (e v) : (s.takeStatus e v).slotView = s.slotView := by
  simp [State.takeStatus]

@[simp] theorem State.slotView_takeNak (e) : (s.takeNak e).slotView = s.slotView := by
  unfold State.takeNak; split <;> simp

@[simp] theorem State.slotView_autoStep : s.autoStep.slotView = s.slotView := by
  rw [State.autoStep_eq]; rfl

@[simp] theorem State.slotView_readEffect (r) : (s.readEffect r).slotView = s.slotView := by
  unfold State.readEffect; split
  case h_4 | h_5 => exact s.slotView_setChan_same rfl
  all_goals rfl

@[simp] theorem State.slotView_dataRead : s.dataRead.slotView = s.slotView := by
  unfold State.dataRead; dsimp only; split <;> simp

@[simp] theorem State.slotView_portRead : s.portRead.slotView = s.slotView := by
  unfold State.portRead; split <;> rfl

@[simp] theorem State.slotView_portWrite (v) : (s.portWrite v).slotView = s.slotView := by
  unfold State.portWrite; split <;> rfl

@[simp] theorem State.slotView_portMark : s.portMark.slotView = s.slotView := by
  unfold State.portMark; split <;> rfl

@[simp] theorem State.slotView_portSkip : s.portSkip.slotView = s.slotView := by
  unfold State.portSkip; split <;> rfl

@[simp] theorem State.slotView_noPattern : s.noPattern.slotView = s.slotView := by
  unfold State.noPattern; split <;> rfl

@[simp] theorem State.slotView_answerTenthBit : s.answerTenthBit.slotView = s.slotView := by
  unfold State.answerTenthBit; split <;> rfl

@[simp] theorem State.slotView_finishMove (m v) : (s.finishMove m v).1.slotView = s.slotView := by
  unfold State.finishMove; dsimp only; split <;> split <;> rfl

end Unchanged

/-! ### Operations that take a slot or give one up -/

section Changed
variable (s : State)

/-- The end of the Active job, its link cleaned up (R115). -/
theorem State.slotView_postAmong_leaveQueue (k : Nat) (e : Event) :
    ((s.postAmong k .job e).leaveQueue).slotView = s.slotView.give .job := by
  simp [State.leaveQueue, State.slotView_setActive, State.slotView_postAmong, SlotView.give]

theorem State.slotView_leaveScan : s.leaveScan.slotView =
    { s.slotView with holds := Function.update s.slotView.holds .scan false } := by
  simp [State.leaveScan, State.slotView_setAttention]

/-- The end of a scan with its claimant, and without one (R127, R128). -/
theorem State.slotView_endScanClaimed (x : Scan) (i v r) :
    (s.endScanClaimed x i v r).slotView = s.slotView.give .scan := by
  simp [State.endScanClaimed, State.slotView_leaveScan, State.slotView_post, State.slotView_setAttention_same,
    SlotView.give]

theorem State.slotView_endScanUnclaimed (x : Scan) : (s.endScanUnclaimed x).slotView = s.slotView.give .scan := by
  simp [State.endScanUnclaimed, State.slotView_leaveScan, State.slotView_post, State.slotView_setAttention_same,
    SlotView.give]

/-- The end of a run (R167). -/
theorem State.slotView_afterRunEnd (c r) : (s.afterRunEnd c r).slotView = s.slotView.give (.channel c) := by
  rw [← State.endRun_eq_afterRunEnd]
  simp [State.endRun, State.slotView_post, State.slotView_setChan, SlotView.give]

/-- The start of a run (R157). -/
theorem State.slotView_startRun (c) : (s.startRun c).slotView = s.slotView.take (.channel c) := by
  simp [State.startRun, State.slotView_reserve, State.slotView_setChan, SlotView.take]

/-- A byte move begins on a channel (R160). -/
theorem State.slotView_startMove (c) : (s.startMove c).slotView = { s.slotView with moving := some c } := by
  have begun (t : State) (p : Option Cell) :
      (t.setMover { t.mover with lastServed := c, move := some { chan := c, popped := p } }).slotView =
        { t.slotView with moving := some c } := t.slotView_setMover _ fun d => by cases d <;> rfl
  unfold State.startMove; dsimp only; split
  · exact begun s none
  · split
    · exact begun (s.setLink _ _) _
    · exact begun s none

end Changed

/-! ### The law across the mover's operations -/

section Mover
variable {s : State} {c : Chan}

/-- The end of a run of a Running channel whose byte is not moving (R167). -/
theorem State.afterRunEnd_slots (h : s.slotView.Lawful) (running : (s.chan c).running = true)
    (still : s.moving c = false) (r : StopReason) : (s.afterRunEnd c r).slotView.Lawful := by
  rw [State.slotView_afterRunEnd]
  refine h.give running fun d hd hm => ?_
  obtain rfl : c = d := Holder.channel.inj hd
  simp [(s.moving_iff c).mpr hm] at still

theorem State.stopChannel_slots (h : s.slotView.Lawful) (c : Chan) (r : StopReason) :
    (s.stopChannel c r).slotView.Lawful := by
  rcases s.stopChannel_cases c r with ⟨-, heq⟩ | ⟨-, -, heq⟩ | ⟨running, still, heq⟩ <;> rw [heq]
  · exact h
  · rw [State.slotView_setChan_same]
    · exact h
    · rfl
  · exact State.afterRunEnd_slots h running still r

theorem State.closeLink_slots (h : s.slotView.Lawful) (i : LinkIndex) (r : StopReason) :
    (s.closeLink i r).slotView.Lawful := by
  unfold State.closeLink; dsimp only; split
  · exact State.stopChannel_slots (by simpa using h) _ _
  · simpa using h

theorem State.shutOpenLink_slots (h : s.slotView.Lawful) (i : LinkIndex) : (s.shutOpenLink i).slotView.Lawful := by
  unfold State.shutOpenLink; dsimp only; split
  · exact State.stopChannel_slots (by simpa using h) _ _
  · simpa using h

theorem State.loseLinks_slots (h : s.slotView.Lawful) : s.loseLinks.slotView.Lawful := by
  have lost (n : Nat) : ((s.setLinks (mapTable Link.busReset s.links)).setFreeTick n).slotView.Lawful := h
  have stopped {t : State} (ht : t.slotView.Lawful) (c : Chan) : (t.stopChannel c .lost).slotView.Lawful :=
    State.stopChannel_slots ht c .lost
  unfold State.loseLinks; dsimp only; split
  · split <;> exact stopped (stopped (lost _) _) _
  · exact stopped (lost s.freeTick) _
  · exact stopped (lost s.freeTick) _
  · exact h

theorem State.resetByPulse_slots (h : s.slotView.Lawful) : s.resetByPulse.slotView.Lawful := by
  rw [State.resetByPulse, State.slotView_clearAttention]
  exact State.loseLinks_slots h

/-- The arbiter serves a channel with work, which runs (R158, R161). -/
theorem State.chooseChannel_running (h : s.chooseChannel = some c) : (s.chan c).running = true := by
  have work (d : Chan) (hw : s.hasWork d = true) : (s.chan d).running = true := by
    simp only [State.hasWork, Bool.and_eq_true] at hw
    obtain ⟨⟨running, -⟩, -⟩ := hw
    exact running
  unfold State.chooseChannel at h
  split at h
  next ha hb => cases c <;> simp only [work, ha, hb]
  next ha _ => cases h; exact work _ ha
  next _ hb => cases h; exact work _ hb
  next => cases h

theorem State.nextMove_slots (h : s.slotView.Lawful) : s.nextMove.slotView.Lawful := by
  unfold State.nextMove
  split
  · split
    next c hc =>
      rw [State.slotView_startMove]
      refine h.withMoving fun d hd => ?_
      obtain rfl : c = d := Option.some.inj hd
      exact State.chooseChannel_running hc
    next => exact h
  · exact h

/-- A byte move completes on a Running channel, whose run may end with it (R160, R165, R166). -/
theorem State.completeMove_slots (h : s.slotView.Lawful) {p : Option Cell}
    (hm : s.mover.move = some { chan := c, popped := p }) (v : Byte) :
    (s.completeMove { chan := c, popped := p } v).slotView.Lawful := by
  have running : (s.chan c).running = true := h.moving c (by simp [State.slotView, hm])
  have claim := s.slotView_finishMove { chan := c, popped := p } v
  rw [State.completeMove_eq]
  refine State.nextMove_slots ?_
  generalize s.finishMove { chan := c, popped := p } v = f at claim
  obtain ⟨t, taken, marked⟩ := f
  generalize hx : (if taken then (s.chan c).counted else s.chan c) = x
  rw [State.afterClaim_eq x taken hx]
  have runs : x.running = true := by subst hx; cases taken <;> exact running
  have view : ((t.setChan c x).setMover { (t.setChan c x).mover with move := none }).slotView =
      { s.slotView with moving := none } := by
    have same : x.running = (t.chan c).running :=
      runs.trans (running.symm.trans (congrArg (fun w => w.holds (.channel c)) claim).symm)
    rw [State.slotView_setMover _ _ fun d => by cases d <;> rfl, State.slotView_setChan_same _ same]
    exact congrArg (fun w => { w with moving := none }) claim
  have rest := view ▸ h.withMoving (m := none) (by simp)
  cases x.completionEnd taken marked with
  | none => exact rest
  | some r => exact State.afterRunEnd_slots rest (by cases c <;> exact runs) rfl r

theorem State.moveCompletion_slots (h : s.slotView.Lawful) (v : Byte) : (s.moveCompletion v).slotView.Lawful := by
  unfold State.moveCompletion
  split
  next hm => exact State.completeMove_slots h hm v
  next => exact h

/-- The room a free slot is (R133). -/
theorem State.room_of_freeSlots (h : s.freeSlots ≠ 0) :
    s.slotView.held + s.slotView.reserved.length < Config.eventSlots :=
  not_le.mp (mt s.freeSlots_eq_zero_iff.mpr h)

/-- A MOVER-START that is taken has found a free slot (R157, check 6). -/
theorem State.freeSlots_of_startRefusal (h : s.startRefusal c = none) : s.freeSlots ≠ 0 := by
  intro full
  unfold State.startRefusal at h
  dsimp only at h
  repeat' (split at h; · cases h)
  contradiction

theorem State.moverStart_slots (h : s.slotView.Lawful) (c : Chan) : (s.moverStart c).slotView.Lawful := by
  unfold State.moverStart
  split
  · exact h
  next hr =>
    obtain ⟨idle, -⟩ := s.startRefusal_none hr
    rw [State.slotView_taken]
    refine State.nextMove_slots ?_
    rw [State.slotView_startRun]
    exact h.take idle (State.room_of_freeSlots (State.freeSlots_of_startRefusal hr))

theorem State.moverStop_slots (h : s.slotView.Lawful) (c : Chan) : (s.moverStop c).slotView.Lawful := by
  unfold State.moverStop
  split
  · exact State.stopChannel_slots h c .command
  · exact h

end Mover

/-! ### The law across the operations of the sequencer -/

section Jobs
variable {s : State} {j : Job} {x : JobContext}

theorem State.cleanUp_slots (h : s.slotView.Lawful) (i : LinkIndex) (c : Cleanup) :
    (s.cleanUp i c).1.slotView.Lawful := by
  cases c with
  | keep | opened => exact h
  | close r => exact State.closeLink_slots h i r

theorem State.active_of_activeJob (h : s.activeJob = some (j, x)) : s.active.isSome = true := by
  unfold State.activeJob at h
  split at h
  next ha => simp [ha]
  next => cases h

/-- The Active job's event takes the job's slot (R115, R135). -/
theorem State.endJobSince_slots (h : s.slotView.Lawful) (n : Nat) (r : JobResult) (c : Cleanup) :
    (s.endJobSince n r c).slotView.Lawful := by
  unfold State.endJobSince
  split
  · exact h
  next j x hact =>
    dsimp only
    rw [State.slotView_postAmong_leaveQueue]
    have active : (s.cleanUp j.linkIndex c).1.active.isSome = s.active.isSome :=
      congrArg BusView.active (s.busView_cleanUp j.linkIndex c)
    exact (State.cleanUp_slots h j.linkIndex c).give (active.trans (State.active_of_activeJob hact)) nofun

theorem State.endJob_slots (h : s.slotView.Lawful) (r : JobResult) (c : Cleanup) : (s.endJob r c).slotView.Lawful :=
  State.endJobSince_slots h _ r c

theorem State.startExchange_slots (h : s.slotView.Lawful) (later : Bool) : (s.startExchange later).slotView.Lawful := by
  rcases s.startExchange_cases later with ⟨r, heq⟩ | ⟨e, -, heq⟩ | heq <;> rw [heq]
  · exact State.endJob_slots h r .keep
  · exact h
  · exact h

theorem State.startOpen_slots (h : s.slotView.Lawful) (j : Job) : (s.startOpen j).slotView.Lawful := by
  unfold State.startOpen
  split
  · exact State.endJob_slots h _ _
  next t ht =>
    obtain ⟨-, -, -, rfl⟩ := State.openClaim_passed ht
    exact State.startExchange_slots (s := (s.setLink _ _).setFreePages _) h false

theorem State.startShut_slots (h : s.slotView.Lawful) (j : Job) : (s.startShut j).slotView.Lawful := by
  unfold State.startShut
  split
  · exact State.startExchange_slots (State.shutOpenLink_slots h _) false
  · exact State.endJob_slots (by simpa using h) _ _
  · exact State.endJob_slots h _ _

/-- A job that starts takes a slot (R93, R134). -/
theorem State.startJob_slots (h : s.slotView.Lawful) (new : s.active = none) (free : s.freeSlots ≠ 0) :
    s.startJob.slotView.Lawful := by
  unfold State.startJob
  split
  · exact h
  next j rest _ =>
    have started (q : Sequencer) :
        (((s.reserve .job).setActive (some JobContext.fresh)).setSeq q).slotView.Lawful := by
      rw [State.slotView_setSeq, State.slotView_setActive]
      exact h.take (h := .job) (by simp [State.slotView, State.holds, new]) (State.room_of_freeSlots free)
    dsimp only
    cases j.kind
    case openLink => exact State.startOpen_slots (started _) j
    case shut => exact State.startShut_slots (started _) j
    case busReset => exact started { s.seq with jobTurn := false, state := .resetting }
    all_goals exact State.startExchange_slots (started _) false

theorem State.busyOutcome_slots (h : s.slotView.Lawful) (ha : s.active.isSome = true) (j : Job) (x : JobContext) :
    (s.busyOutcome j x).slotView.Lawful := by
  have counted (y : JobContext) : (s.setActive (some y)).slotView.Lawful := State.setActive_slots h ha.symm
  unfold State.busyOutcome; dsimp only; split
  · exact State.endJob_slots (counted _) _ _
  · split
    · exact State.startExchange_slots (counted _) false
    · exact counted _

theorem State.dataComplete_slots (h : s.slotView.Lawful) (j : Job) (x : JobContext) :
    (s.dataComplete j x).slotView.Lawful := by
  unfold State.dataComplete; split
  · exact State.endJob_slots h _ _
  · exact h

theorem State.endCensusVisit_slots (h : s.slotView.Lawful) (e : Exchange) (o : ExchangeOutcome) (x : JobContext) :
    (s.endCensusVisit e o x).slotView.Lawful := by
  unfold State.endCensusVisit; dsimp only; split
  · exact State.endJob_slots (by simpa using h) _ _
  · simpa using h

/-- An exchange's outcome reaches its job, and may end it (R94). -/
theorem State.jobOutcome_slots (h : s.slotView.Lawful) (e : Exchange) (o : ExchangeOutcome) :
    (s.jobOutcome e o).slotView.Lawful := by
  unfold State.jobOutcome
  split
  · exact h
  next j x hact =>
    have absorbed (y : JobContext) : (s.setActive (some y)).slotView.Lawful :=
      State.setActive_slots h (State.active_of_activeJob hact).symm
    dsimp only
    split
    · exact State.endCensusVisit_slots (absorbed _) e o _
    · split
      · exact State.busyOutcome_slots (absorbed _) rfl j _
      · exact State.endJob_slots (absorbed _) _ _
      · split
        · exact State.dataComplete_slots (absorbed _) j _
        · exact State.endJob_slots (absorbed _) _ _
      · exact State.endJob_slots (absorbed _) _ _

end Jobs

/-! ### The law across a scan and the arbiter's decision -/

section Decisions
variable {s t : State}

/-- A visit begins in a scan that has its slot (R125). -/
theorem State.beginVisit_slots (h : s.slotView.Lawful) (hs : s.attention.scan.isSome = true) (x : Scan)
    (i : StationIndex) : (s.beginVisit x i).slotView.Lawful := by
  rw [State.beginVisit, State.slotView_beginExchange]
  exact State.setAttention_slots h hs.symm

theorem State.endScanClaimed_slots (h : s.slotView.Lawful) (hs : s.attention.scan.isSome = true) (x : Scan)
    (i : StationIndex) (v : Byte) (r : JobResult) : (s.endScanClaimed x i v r).slotView.Lawful := by
  rw [State.slotView_endScanClaimed]; exact h.give hs nofun

theorem State.endScanUnclaimed_slots (h : s.slotView.Lawful) (hs : s.attention.scan.isSome = true) (x : Scan) :
    (s.endScanUnclaimed x).slotView.Lawful := by
  rw [State.slotView_endScanUnclaimed]; exact h.give hs nofun

/-- A scan that starts takes a slot (R123, R134). -/
theorem State.startScan_slots (h : s.slotView.Lawful) (new : s.attention.scan = none) (free : s.freeSlots ≠ 0) :
    s.startScan.slotView.Lawful := by
  have started (q : Sequencer) (x : Attention) (hx : x.scan.isSome = true) :
      (((s.reserve .scan).setSeq q).setAttention x).slotView.Lawful := by
    rw [State.slotView_setAttention, hx]
    exact h.take (h := .scan) (by simp [State.slotView, State.holds, new]) (State.room_of_freeSlots free)
  unfold State.startScan; dsimp only
  split
  · exact State.beginVisit_slots (started _ _ rfl) rfl _ _
  · exact State.endScanUnclaimed_slots (started _ _ rfl) rfl _

theorem State.endVisit_slots (h : s.slotView.Lawful) (o : ExchangeOutcome) : (s.endVisit o).slotView.Lawful := by
  unfold State.endVisit
  split
  · exact h
  next x hx =>
    have left (a : Attention) (ha : a.scan.isSome = true) : (s.setAttention a).slotView.Lawful :=
      State.setAttention_slots h (ha.trans (by simp [hx]))
    dsimp only
    split
    · exact State.endScanClaimed_slots (left _ rfl) rfl _ _ _ _
    · split
      · exact left _ rfl
      · exact State.endScanUnclaimed_slots (left _ rfl) rfl _

theorem State.nextVisit_slots (h : s.slotView.Lawful) : s.nextVisit.slotView.Lawful := by
  unfold State.nextVisit
  split
  · exact h
  next x hx =>
    split
    · exact State.beginVisit_slots h (by simp [hx]) _ _
    · exact State.endScanUnclaimed_slots h (by simp [hx]) _

/-- The arbiter starts a job or a scan only while a slot is free and neither has one (R90, R92). -/
theorem State.arbitrate_slots (fuel : Nat) (h : s.slotView.Lawful) (law : s.busView.Lawful) :
    (State.arbitrate fuel s).slotView.Lawful := by
  induction fuel generalizing s with
  | zero => exact h
  | succ fuel ih =>
    unfold State.arbitrate
    split
    next idle =>
      split
      · exact h
      next w _ =>
        split
        · exact h
        next free =>
          have rest : (s.setSeq { s.seq with stall := false }).busView.AtIdle := law.atIdle idle
          refine ih ?_ (State.carryOut_lawful rest w)
          cases w with
          | scan => exact State.startScan_slots h (by simpa using rest.scanning) free
          | job => exact State.startJob_slots h (by simpa using rest.active) free
    next => exact h

theorem State.decide_slots (h : s.slotView.Lawful) (law : s.busView.Lawful) : s.decide.slotView.Lawful :=
  State.arbitrate_slots _ h law

theorem State.settle_slots (s : State) (h : t.slotView.Lawful) (law : t.busView.Lawful) :
    (State.settle s t).slotView.Lawful := by
  unfold State.settle
  split
  · exact h
  · exact State.decide_slots h law

end Decisions

/-! ### The law across the steps of an exchange and the events of the wire -/

section Wire
variable {s : State}

theorem State.endExchange_slots (h : s.slotView.Lawful) (e : Exchange) (o : ExchangeOutcome) :
    (s.endExchange e o).slotView.Lawful := by
  have freed : ((s.setExchange none).busToFree).slotView.Lawful := h
  unfold State.endExchange; dsimp only
  split
  · exact State.endVisit_slots freed o
  · exact State.jobOutcome_slots freed e o
  · exact freed

theorem State.endCut_slots (h : s.slotView.Lawful) (e : Exchange) : (s.endCut e).slotView.Lawful := by
  have freed : ((s.setExchange none).busToFree).slotView.Lawful := h
  unfold State.endCut; dsimp only
  split
  · exact State.endVisit_slots freed _
  · exact State.jobOutcome_slots freed e _
  · split
    · exact freed
    · split
      · exact State.endJob_slots (by simpa using h) _ _
      · exact State.jobOutcome_slots freed e _
  · exact freed

theorem State.takeHandback_slots (h : s.slotView.Lawful) (e : Exchange) : (s.takeHandback e).slotView.Lawful := by
  unfold State.takeHandback
  split
  · exact h
  · split
    · exact State.endExchange_slots h e _
    · split
      · simpa using h
      · split
        · exact State.endExchange_slots h e _
        · exact h
      · exact State.endExchange_slots h e _

theorem State.takeFrame_slots (h : s.slotView.Lawful) (e : Exchange) (v : Byte) (m : Bool) :
    (s.takeFrame e v m).slotView.Lawful := by
  unfold State.takeFrame
  split
  · simpa using h
  · exact State.nextMove_slots (by simpa using h)
  · exact h

theorem State.putByteSent_slots (h : s.slotView.Lawful) (e : Exchange) (m : Bool) :
    (s.putByteSent e m).slotView.Lawful := by
  unfold State.putByteSent; dsimp only
  split
  · exact State.endExchange_slots (by simpa using h) _ _
  · simpa using h

theorem State.testSent_slots (h : s.slotView.Lawful) (e : Exchange) : (s.testSent e).slotView.Lawful := by
  unfold State.testSent; dsimp only
  split
  · exact h
  · split
    · exact State.endExchange_slots (by simpa using h) _ _
    · exact State.endExchange_slots h _ _

theorem State.takeAck_slots (h : s.slotView.Lawful) (e : Exchange) : (s.takeAck e).slotView.Lawful := by
  unfold State.takeAck
  split
  · split <;> exact h
  · split
    · exact State.putByteSent_slots h e _
    · exact State.testSent_slots h e
    · exact h

/-- A report on the exchange in progress keeps the law when what it does to its exchange does. -/
theorem State.onReport_slots (h : s.slotView.Lawful) {w : Bool} {f : Exchange → State}
    (hf : ∀ e, s.exchange = some e → w = true → (f e).slotView.Lawful ∧ (f e).busView.Lawful) :
    (s.onReport w f).slotView.Lawful := by
  unfold State.onReport
  split
  next e he =>
    split
    next hw => exact State.settle_slots s (hf e he hw).1 (hf e he hw).2
    next => exact h
  next => exact h

/-- The header's first frame leaves the arbiter nothing to decide (R13). -/
theorem State.linesReleased_slots (h : s.slotView.Lawful) : s.linesReleased.slotView.Lawful := by
  unfold State.linesReleased State.onReport
  split
  · split
    · rw [State.settle_of_idle_iff (by exact id)]; exact h
    · exact h
  · exact h

theorem State.cutCompletion_slots (h : s.slotView.Lawful) (law : s.busView.Lawful) :
    s.cutCompletion.slotView.Lawful := by
  unfold State.cutCompletion
  split
  next ha =>
    split
    next e he =>
      have hp : e.phase = .cut := by
        have := (law.seq.fits he).1
        cases hp : e.phase <;> simp_all [Phase.fits]
      exact State.settle_slots s (State.endCut_slots h e) (State.endCut_lawful law he hp)
    next he => rcases law.seq.free_or_pulsing he with hf | hf <;> simp_all
  next => exact h

theorem State.pulseCompletion_slots (h : s.slotView.Lawful) (law : s.busView.Lawful) :
    s.pulseCompletion.slotView.Lawful := by
  unfold State.pulseCompletion
  split
  next ha =>
    have hq : s.seq.state = .resetting := ((s.busView_lawful_iff.mp law).2.2.2.2).mp ha
    have sq := law.seq
    rw [BusView.SeqLaw, State.busView_seq, hq] at sq
    obtain ⟨active, scanning, -, exchange, -⟩ := sq
    have rest : s.busToFree.resetByPulse.busView.JobAtRest := by
      rw [State.busView_resetByPulse, State.busView_busToFree s law.waiting]
      exact ⟨law.room, law.head active, active, rfl, scanning, exchange, rfl⟩
    exact State.settle_slots s (State.endJobSince_slots (State.resetByPulse_slots (s := s.busToFree) h) _ _ _)
      (State.endJobSince_lawful rest _ _ _)
  next => exact h

theorem State.busyDelayEnd_slots (h : s.slotView.Lawful) (law : s.busView.Lawful) :
    s.busyDelayEnd.slotView.Lawful := by
  unfold State.busyDelayEnd
  split
  next hq =>
    have sq := law.seq
    rw [BusView.SeqLaw, State.busView_seq, hq] at sq
    obtain ⟨active, scanning, head, exchange, free⟩ := sq
    have between : (s.setSeqState .running).busView.BetweenExchanges :=
      ⟨⟨law.room, law.head active, active, law.waiting, scanning, exchange, free⟩, rfl, head⟩
    exact State.settle_slots s (State.startExchange_slots (s := s.setSeqState .running) h false)
      (State.startExchange_lawful between false)
  next => exact h

theorem State.nextStep_slots (h : s.slotView.Lawful) (law : s.busView.Lawful) : s.nextStep.slotView.Lawful := by
  have whole (he : s.exchange = none) (hq : s.seq.state = .running ∨ s.seq.state = .scanning) :
      s.busView = { s.busView with exchange := none, activity := .free, waiting := none } := by
    have hw : s.bus.waiting = none := law.waiting
    have hf : s.bus.activity = .free := law.carries_none he hq
    simp [State.busView, he, hw, hf]
  unfold State.nextStep
  split
  next hq he =>
    split
    · exact State.settle_slots s (State.startExchange_slots h true)
        (State.startExchange_lawful (whole he (.inl hq) ▸ law.betweenExchanges hq) true)
    · exact h
  next hq he =>
    exact State.settle_slots s (State.nextVisit_slots h)
      (State.nextVisit_lawful (whole he (.inr hq) ▸ law.betweenVisits hq))
  next => exact h

end Wire

/-! ### The law across the window, the commands and the lines -/

section Commands
variable {s t : State}

theorem State.slotView_writeMoverReg {c : Chan} {r : MoverReg} {v : Byte} (h : s.writeMoverReg c r v = .stored t) :
    t.slotView = s.slotView := by
  unfold State.writeMoverReg at h
  dsimp only at h
  split at h
  · cases h
  · split at h
    · cases h
    · split at h
      case h_1 => split at h <;> cases h; exact s.slotView_setChan_same rfl
      case h_7 => cases h
      all_goals cases h; exact s.slotView_setChan_same rfl

theorem State.writeCfg_slots (h : s.slotView.Lawful) (law : s.busView.Lawful) (v : Byte) :
    (s.writeCfg v).slotView.Lawful := by
  unfold State.writeCfg; dsimp only
  split
  · refine State.decide_slots ?_ ?_
    · rw [State.slotView_judgeLatch]; exact h
    · rw [State.busView_judgeLatch]; exact law
  · exact State.decide_slots (State.setAttention_slots (s := s.setSettings _) h rfl) law

theorem State.writeReg_slots (h : s.slotView.Lawful) (law : s.busView.Lawful) {r : Reg} {v : Byte}
    (hr : s.writeReg r v = .stored t) : t.slotView.Lawful := by
  cases r
  case cfg => cases hr; exact State.writeCfg_slots h law v
  case mover c m => exact (State.slotView_writeMoverReg hr).symm ▸ h
  case sSel | lSel | pLink =>
    simp only [State.writeReg] at hr
    split at hr <;> cases hr
    exact h
  all_goals cases hr <;> exact h

theorem State.dataWrite_slots (h : s.slotView.Lawful) (law : s.busView.Lawful) (v : Byte) :
    (s.dataWrite v).slotView.Lawful := by
  unfold State.dataWrite; dsimp only; rw [State.slotView_autoStep]
  split
  · exact h
  · split
    next u hr => exact State.writeReg_slots (t := u) h law hr
    · exact h
    · exact h

theorem State.postJob_slots (h : s.slotView.Lawful) (law : s.busView.Lawful) : s.postJob.slotView.Lawful := by
  unfold State.postJob
  split
  · exact h
  next j _ =>
    split
    · exact h
    next room =>
      refine State.decide_slots h (law.withJobs (js := s.jobs ++ [j]) ?_ fun ha => ?_)
      · simp only [Config.jobLimit, List.length_append, List.length_singleton] at room ⊢; omega
      · exact List.head?_append_of_ne_nil _ (law.head ha)

theorem State.purgeJobs_slots (h : s.slotView.Lawful) (law : s.busView.Lawful) : s.purgeJobs.slotView.Lawful := by
  have kept : BusView.Lawful { s.busView with jobs := s.keptJobs } := by
    refine law.withJobs ?_ fun ha => ?_
    · unfold State.keptJobs; split <;> simp [Config.jobLimit]
    · have active : s.active.isSome = true := ha
      simp [State.keptJobs, active, List.head?_take]
  exact State.decide_slots (by simpa using h) (by simpa using kept)

/-- POP frees a slot (R136). -/
theorem State.popEvent_slots (h : s.slotView.Lawful) (law : s.busView.Lawful) : s.popEvent.slotView.Lawful := by
  unfold State.popEvent
  split
  · exact h
  next e rest hheld => exact State.decide_slots (h.withHeld (n := rest.length) (by simp [State.slotView, hheld])) law

theorem State.askRearm_slots (h : s.slotView.Lawful) (law : s.busView.Lawful) : s.askRearm.slotView.Lawful := by
  unfold State.askRearm
  split
  · exact h
  · refine State.decide_slots ?_ ?_
    · rw [State.slotView_taken, State.slotView_judgeLatch]; exact State.setAttention_slots h rfl
    · rw [State.busView_taken, State.busView_judgeLatch]; exact law

theorem State.abortNow_slots (h : s.slotView.Lawful) : s.abortNow.slotView.Lawful := by
  unfold State.abortNow
  split
  · exact State.endJob_slots h _ _
  · exact h

/-- A Holding job, and a Running one between its exchanges, is at rest (R89). -/
theorem BusView.Lawful.jobAtRest {v : BusView} (law : v.Lawful)
    (hq : v.seq = .holding ∨ (v.seq = .running ∧ v.exchange = none)) : v.JobAtRest := by
  have sq := law.seq
  obtain hq | ⟨hq, exchange⟩ := hq <;> rw [BusView.SeqLaw, hq] at sq
  · obtain ⟨active, scanning, -, exchange, free⟩ := sq
    exact ⟨law.room, law.head active, active, law.waiting, scanning, exchange, free⟩
  · obtain ⟨active, scanning, -⟩ := sq
    exact ⟨law.room, law.head active, active, law.waiting, scanning, exchange, law.carries_none exchange (.inl hq)⟩

theorem State.abortJob_slots (h : s.slotView.Lawful) (law : s.busView.Lawful) : s.abortJob.slotView.Lawful := by
  have ended (rest : s.busView.JobAtRest) : s.taken.abortNow.decide.slotView.Lawful :=
    State.decide_slots (State.abortNow_slots (s := s.taken) h) (State.abortNow_lawful (s := s.taken) rest)
  unfold State.abortJob
  split
  case h_5 hq => exact ended (law.jobAtRest (.inl hq))
  case h_6 hq =>
    split
    next => simpa using h
    next he => exact ended (law.jobAtRest (.inr ⟨hq, he⟩))
  all_goals exact h

/-- With no slot held and no byte moving, the queue may hold as many events as it has slots. -/
theorem SlotView.lawful_of_none {v : SlotView} (held : v.held ≤ Config.eventSlots) (reserved : v.reserved = [])
    (holds : ∀ h, v.holds h = false) (moving : v.moving = none) : v.Lawful where
  nodup := reserved ▸ .nil
  room := by simpa [reserved] using held
  holders h := by simp [reserved, holds]
  moving c hc := by simp [moving] at hc

/-- SOFT-RESET takes every slot back (R116, R130, R141, R168). -/
theorem State.softResetDone_slots (s : State) : s.softResetDone.slotView.Lawful := by
  rw [State.softResetDone_eq]
  refine SlotView.lawful_of_none (Nat.zero_le _) rfl (fun h => ?_) rfl
  rcases h with _ | _ | _ | _ <;> rfl

/-- SOFT-RESET leaves an exchange in Cut, or an Idle sequencer and a Free bus unit (R19, R116). -/
theorem State.softResetDone_lawful (law : s.busView.Lawful) : s.softResetDone.busView.Lawful := by
  have bus : s.softResetDone.bus = _ := State.busAfterSoftReset_of_busLaw (s.busView_lawful_iff.mp law).2
  have seq : s.softResetDone.seq.state = _ := State.softResetSeq_of_seqLaw law.seq
  have view : s.softResetDone.busView =
      { activity := s.softResetDone.bus.activity, waiting := s.softResetDone.bus.waiting,
        exchange := s.exchange.map Exchange.cut, jobs := [], active := false, seq := s.softResetDone.seq.state,
        scanning := false } := by rw [State.softResetDone_eq]; rfl
  rw [view, bus, seq]
  cases he : s.exchange with
  | some e =>
    exact ⟨Nat.zero_le _, nofun, rfl, rfl, e.cut, rfl, rfl, Exchange.cut_outcomeFits (law.seq.fits he).2, rfl⟩
  | none =>
    have waiting : s.bus.waiting = none := law.waiting
    refine BusView.AtIdle.lawful ?_
    rcases law.seq.free_or_pulsing he with ha | ha <;> rw [State.busView_activity] at ha <;>
      exact ⟨Nat.zero_le _, by simp [ha, waiting, BusUnit.inFree], rfl, rfl, rfl, rfl, by simp [ha, BusUnit.inFree]⟩

theorem State.softReset_slots (law : s.busView.Lawful) : s.softReset.slotView.Lawful := by
  rw [State.softReset_eq_decide]
  exact State.decide_slots s.softResetDone_slots (State.softResetDone_lawful law)

theorem State.pinReset_slots (s : State) : s.pinReset.slotView.Lawful :=
  SlotView.lawful_of_none (Nat.zero_le _) rfl (fun h => by rcases h with _ | _ | _ | _ <;> rfl) rfl

theorem State.commandWrite_slots (h : s.slotView.Lawful) (law : s.busView.Lawful) (v : Byte) :
    (s.commandWrite v).slotView.Lawful := by
  unfold State.commandWrite
  split
  · exact State.postJob_slots h law
  · exact State.popEvent_slots h law
  · exact State.abortJob_slots h law
  · exact State.purgeJobs_slots h law
  · exact State.askRearm_slots h law
  · rw [State.slotView_portMark]; exact h
  · rw [State.slotView_portSkip]; exact h
  · exact State.moverStart_slots h .a
  · exact State.moverStart_slots h .b
  · exact State.moverStop_slots h .a
  · exact State.moverStop_slots h .b
  · exact State.softReset_slots law
  · exact h

theorem State.askAsserted_slots (h : s.slotView.Lawful) (law : s.busView.Lawful) : s.askAsserted.slotView.Lawful := by
  unfold State.askAsserted
  split
  · exact h
  · refine State.decide_slots ?_ ?_
    · rw [State.slotView_judgeLatch]; exact h
    · rw [State.busView_judgeLatch]; exact law

theorem State.askReleased_slots (h : s.slotView.Lawful) (law : s.busView.Lawful) : s.askReleased.slotView.Lawful :=
  State.decide_slots (State.setAttention_slots (s := s.setPins _) h rfl) law

/-! ### Every command keeps the law -/

/-- A window access is taken whole or not at all (R169). -/
theorem onWindow_slots {f : State → State} (h : s.slotView.Lawful) (hf : (f s).slotView.Lawful)
    (ht : onWindow f s = .next t) : t.slotView.Lawful :=
  onWindow_keeps (K := fun s => s.slotView.Lawful) h hf ht

theorem onWindow_slots_of_view {f : State → State} (h : s.slotView.Lawful) (hf : (f s).slotView = s.slotView)
    (ht : onWindow f s = .next t) : t.slotView.Lawful :=
  onWindow_slots h (hf ▸ h) ht

theorem next_slots (ht : (Host.Outcome.next s : Host.Outcome State Fault Refusal) = .next t)
    (h : s.slotView.Lawful) : t.slotView.Lawful :=
  next_keeps (K := fun s => s.slotView.Lawful) ht h

theorem exec_slots {i : Instr} (h : s.slotView.Lawful) (law : s.busView.Lawful) (ht : exec i s = .next t) :
    t.slotView.Lawful := by
  have fails (o : ExchangeOutcome) (ho : o.failure = true) {e : Exchange} (he : s.exchange = some e) :
      (s.failExchange e o).slotView.Lawful ∧ (s.failExchange e o).busView.Lawful :=
    ⟨by simpa using h, State.failExchange_lawful law he e ho⟩
  cases i with
  | indexWrite v =>
    exact onWindow_slots (f := fun t => t.setWindow { t.window with index := v.setWidth 6 }) h h ht
  | statusRead =>
    exact onWindow_slots (f := fun t => (t.setEvents { t.events with qroom := false }).readBack t.statusByte) h h ht
  | cfgWrite v | intEnWrite v | sSelWrite v | lSelWrite v | pLinkWrite v | maLinkWrite v | registerWrite v =>
    exact onWindow_slots (f := (·.dataWrite v)) h (State.dataWrite_slots h law v) ht
  | lCountLRead | lTotalLRead | maAddrLRead | maCountLRead | pFlagsRead | dataRead =>
    exact onWindow_slots_of_view h s.slotView_dataRead ht
  | portRead => exact onWindow_slots_of_view h s.slotView_portRead ht
  | portWrite v => exact onWindow_slots_of_view (f := (·.portWrite v)) h (s.slotView_portWrite v) ht
  | portMark => exact onWindow_slots_of_view h s.slotView_portMark ht
  | portSkip => exact onWindow_slots_of_view h s.slotView_portSkip ht
  | moverStart c => exact onWindow_slots (f := (·.moverStart c)) h (State.moverStart_slots h c) ht
  | moverStop c => exact onWindow_slots (f := (·.moverStop c)) h (State.moverStop_slots h c) ht
  | post => exact onWindow_slots h (State.postJob_slots h law) ht
  | pop => exact onWindow_slots h (State.popEvent_slots h law) ht
  | abort => exact onWindow_slots h (State.abortJob_slots h law) ht
  | purge => exact onWindow_slots h (State.purgeJobs_slots h law) ht
  | askRearm => exact onWindow_slots h (State.askRearm_slots h law) ht
  | softReset => exact onWindow_slots h (State.softReset_slots law) ht
  | unknownCommand v => exact onWindow_slots (f := (·.commandWrite v)) h (State.commandWrite_slots h law v) ht
  | pinReset => exact next_slots ht s.pinReset_slots
  | askLineAsserted => exact next_slots ht (State.askAsserted_slots h law)
  | askLineReleased => exact next_slots ht (State.askReleased_slots h law)
  | bgntGiven => exact next_slots ht (State.nextMove_slots (s := s.setPins _) h)
  | bgntWithdrawn => exact next_slots ht h
  | byteMoveCompletion v => exact next_slots ht (State.moveCompletion_slots h v)
  | linesReleased => exact next_slots ht (State.linesReleased_slots h)
  | ackRead =>
    refine next_slots ht (State.onReport_slots h fun e he hw => ?_)
    have onWire : s.OnWire e := law.onWire he (by rintro ha; simp [ha] at hw)
    exact ⟨State.nextMove_slots (State.takeAck_slots h e), by
      rw [State.busView_nextMove]; exact State.takeAck_lawful onWire⟩
  | nakRead | nakGiven =>
    refine next_slots ht (State.onReport_slots h fun e he hw => ⟨by simpa using h, ?_⟩)
    exact State.takeNak_lawful (law.onWire he (by rintro ha; simp [ha] at hw))
  | answerReceived d m =>
    refine next_slots ht (State.onReport_slots h fun e he hw => ⟨by simpa using h, ?_⟩)
    exact State.takeAnswer_lawful (law.onWire he (by rintro ha; simp [ha] at hw)) _
  | frameReceived d m =>
    refine next_slots ht (State.onReport_slots h fun e he hw => ⟨State.takeFrame_slots h e d m, ?_⟩)
    exact State.takeFrame_lawful (law.onWire he (by rintro ha; simp [ha] at hw)) d m
  | handback =>
    refine next_slots ht (State.onReport_slots h fun e he hw => ⟨State.takeHandback_slots h e, ?_⟩)
    exact State.takeHandback_lawful (law.onWire he (by rintro ha; simp [ha] at hw))
  | stbEdgeInHandback =>
    refine next_slots ht (State.onReport_slots h fun e he _ => ?_)
    split
    · exact fails .turnError rfl he
    · exact ⟨h, law⟩
  | answerTimeout =>
    refine next_slots ht (State.onReport_slots h fun e he hw =>
      ⟨State.endExchange_slots (s := s.reportStation _ _) h e _, ?_⟩)
    have onWire : s.OnWire e := law.onWire he (by rintro ha; simp [ha] at hw)
    exact (onWire.of_view (s.busView_reportStation _ _)).endExchange_lawful e _
  | frameTimeout => exact next_slots ht (State.onReport_slots h fun e he _ => fails .frameTimeout rfl he)
  | turnError => exact next_slots ht (State.onReport_slots h fun e he _ => fails .turnError rfl he)
  | cutCompletion => exact next_slots ht (State.cutCompletion_slots h law)
  | pulseCompletion => exact next_slots ht (State.pulseCompletion_slots h law)
  | busyDelayEnd => exact next_slots ht (State.busyDelayEnd_slots h law)
  | nextStep => exact next_slots ht (State.nextStep_slots h law)
  | noPattern => exact next_slots ht (s.slotView_noPattern.symm ▸ h)
  | answerTenthBit => exact next_slots ht (s.slotView_answerTenthBit.symm ▸ h)

/-- A step keeps the law: the command at the front of the queue does, and an idle step changes nothing (log 5). -/
theorem step_slots (h : s.slotView.Lawful) (law : s.busView.Lawful) (ht : step s = .next t) : t.slotView.Lawful := by
  unfold step at ht
  split at ht
  · exact next_slots ht h
  next c rest _ => exact exec_slots (s := s.setPending rest) h law ht

end Commands

end Sys2Proof.Machine

section
open Sys2Proof.Machine

/-- Settles O52: each holder takes a free slot when it begins and gives it up for its event when it ends. -/
theorem stepKeepsSlotLaw : Obligations.StepKeepsSlotLaw := by
  intro s t hq hb hs ht
  exact t.slotView_lawful_iff.mp (step_slots (s.slotView_lawful_iff.mpr hs) (s.busView_lawful_iff.mpr ⟨hq, hb⟩) ht)

end

/-! # PORT-SKIP (chapter 8) -/

namespace Sys2Proof.Machine

/-! ### What a skip claim answers (R78) -/

section Skip
variable {l : Link} {older newer : List Cell} {cell : Cell}

theorem Link.skip_denied (h : ¬ l.popAllowed none = true) : l.skip = none := by
  simp [Link.skip, h]

/-- The mark distance counts the unmarked bytes before the first mark and the marked byte itself (R79). -/
theorem Link.markDistance_of_first_mark (hr : l.ring = older ++ cell :: newer)
    (plain : ∀ x ∈ older, x.marked = false) (marked : cell.marked = true) :
    l.markDistance = some (older.length + 1) := by
  have before : older.findIdx? (·.marked) = none := List.findIdx?_eq_none_iff.mpr plain
  simp [Link.markDistance, hr, List.findIdx?_append, before, List.findIdx?_cons, marked]

theorem Link.markDistance_of_unmarked (plain : ∀ x ∈ l.ring, x.marked = false) : l.markDistance = none := by
  rw [Link.markDistance, List.findIdx?_eq_none_iff.mpr plain, Option.map_none]

/-- With a mark in the ring, the bytes up to and including the first marked one leave it. -/
theorem Link.skip_first_mark (h : l.popAllowed none = true) (hr : l.ring = older ++ cell :: newer)
    (plain : ∀ x ∈ older, x.marked = false) (marked : cell.marked = true) :
    l.skip = some { l with
      ring := newer, start := (l.start + (older.length + 1)) % (256 * l.pages.length) } := by
  have count : l.skipCount = older.length + 1 := by
    rw [Link.skipCount, Link.markDistance_of_first_mark hr plain marked, Option.getD_some]
  have within : older.length + 1 ≤ l.count := by
    simp only [Link.count, hr, List.length_append, List.length_cons]
    omega
  have rest : l.ring.drop (older.length + 1) = newer := by simp [hr]
  rw [Link.skip, if_pos h, count, Link.dropOldest, rest, Nat.min_eq_left within]
  rfl

/-- With no mark in the ring, every byte leaves it. -/
theorem Link.skip_unmarked (h : l.popAllowed none = true) (plain : ∀ x ∈ l.ring, x.marked = false) :
    l.skip = some { l with
      ring := [], start := (l.start + l.ring.length) % (256 * l.pages.length) } := by
  have count : l.skipCount = l.ring.length := by
    rw [Link.skipCount, Link.markDistance_of_unmarked plain, Option.getD_none, Link.count]
  rw [Link.skip, if_pos h, count, Link.dropOldest, List.drop_length, Link.count, Nat.min_self]
  rfl

end Skip

end Sys2Proof.Machine

section
open Sys2Proof.Machine

/-- Settles O15: the answer of the skip claim, with a first mark, with none, and denied. -/
theorem portSkipResult : Obligations.PortSkipResult := by
  rintro s l older newer cell hs rfl
  rw [← Link.popAllowed_iff]
  refine ⟨fun allowed => ⟨fun hr plain marked => ?_, fun plain => ?_⟩, fun denied => ?_⟩ <;>
    refine onWindow_next hs ?_ <;> unfold State.portSkip
  · rw [Link.skip_first_mark allowed hr plain marked]; rfl
  · rw [Link.skip_unmarked allowed plain]; rfl
  · rw [Link.skip_denied denied]; rfl

end

/-! # A grant, and BREQ (R158 to R162) -/

namespace Sys2Proof.Machine

section Grant
variable {s : State} {c : Chan}

/-! ### The channel the arbiter serves (R161) -/

theorem State.chooseChannel_of_no_work (ha : s.hasWork .a = false) (hb : s.hasWork .b = false) :
    s.chooseChannel = none := by
  rw [State.chooseChannel, ha, hb]

/-- A channel with work is served alone, or as the one not served last. -/
theorem State.chooseChannel_of_work (work : s.hasWork c = true)
    (turn : s.hasWork c.other = false ∨ s.mover.lastServed = c.other) : s.chooseChannel = some c := by
  cases other : s.hasWork c.other with
  | false => cases c <;> simp only [Chan.other] at other <;> rw [State.chooseChannel, work, other]
  | true =>
    have last : s.mover.lastServed = c.other := turn.resolve_left (by simp [other])
    have both : s.chooseChannel = some s.mover.lastServed.other := by
      cases c <;> simp only [Chan.other] at other <;> rw [State.chooseChannel, work, other]
    rw [both, last, Chan.other_other]

/-! ### The first step of a byte move (R160) -/

theorem State.startMove_output (dir : (s.chan c).dir = .output) :
    s.startMove c = { s with
      mover := { s.mover with lastServed := c, move := some { chan := c, popped := none } } } := by
  simp only [State.startMove, dir]
  rfl

theorem State.startMove_popped {cell : Cell} {rest : List Cell} (dir : (s.chan c).dir = .input)
    (allowed : (s.link (s.chan c).link).popAllowed (some c) = true)
    (ring : (s.link (s.chan c).link).ring = cell :: rest) :
    s.startMove c = { s with
      links := s.links.set (s.chan c).link { s.link (s.chan c).link with
        ring := rest
        start := ((s.link (s.chan c).link).start + 1) % (256 * (s.link (s.chan c).link).pages.length) }
      mover := { s.mover with lastServed := c, move := some { chan := c, popped := some cell } } } := by
  simp only [State.startMove, dir, Link.pop_cons allowed ring]
  rfl

/-! ### BGNT_GIVEN at a byte boundary and within a move (R161, R162) -/

theorem State.nextMove_of_moving (moves : s.mover.move ≠ none) : s.nextMove = s := by
  rw [State.nextMove, if_neg (by simp [moves])]

theorem State.nextMove_granted (granted : s.pins.bgnt = true) (still : s.mover.move = none) :
    s.nextMove = s.chooseChannel.elim s s.startMove := by
  rw [State.nextMove, if_pos (by simp [granted, still])]
  cases s.chooseChannel <;> rfl

/-- The state once BGNT is given, before a move begins. -/
def State.granted (s : State) : State := { s with pins := { s.pins with bgnt := true } }

theorem exec_bgntGiven (s : State) : exec .bgntGiven s = .next s.granted.nextMove := rfl

theorem exec_bgntGiven_of_moving (moves : s.mover.move ≠ none) : exec .bgntGiven s = .next s.granted := by
  rw [exec_bgntGiven, State.nextMove_of_moving (s := s.granted) moves]

/-- A grant is a byte boundary: the move of the channel that the arbiter serves begins, if it serves one. -/
theorem exec_bgntGiven_of_still (still : s.mover.move = none) :
    exec .bgntGiven s = .next (s.chooseChannel.elim s.granted s.granted.startMove) := by
  rw [exec_bgntGiven, State.nextMove_granted (s := s.granted) rfl still]
  rfl

theorem exec_bgntGiven_of_no_work (still : s.mover.move = none) (ha : s.hasWork .a = false)
    (hb : s.hasWork .b = false) : exec .bgntGiven s = .next s.granted := by
  rw [exec_bgntGiven_of_still still, State.chooseChannel_of_no_work ha hb, Option.elim_none]

theorem exec_bgntGiven_of_work (still : s.mover.move = none) (work : s.hasWork c = true)
    (turn : s.hasWork c.other = false ∨ s.mover.lastServed = c.other) :
    exec .bgntGiven s = .next (s.granted.startMove c) := by
  rw [exec_bgntGiven_of_still still, State.chooseChannel_of_work work turn, Option.elim_some]

end Grant

/-- BREQ is asserted while a move is in progress or a channel has work (R159). -/
theorem State.breqLine_iff (s : State) :
    s.breqLine = true ↔ s.mover.move ≠ none ∨ ∃ c ∈ [Chan.a, Chan.b], s.hasWork c = true := by
  simp only [State.breqLine, Bool.or_eq_true, Option.isSome_iff_ne_none, List.exists_mem_cons_iff,
    List.not_mem_nil, false_and, exists_false, or_false]
  exact or_comm

end Sys2Proof.Machine

section
open Sys2Proof.Machine

/-- Settles O32: a grant begins the move of the channel the arbiter serves, and BREQ follows the work of both. -/
theorem grantServesTheOtherChannel : Obligations.GrantServesTheOtherChannel := by
  refine ⟨fun s c l cell rest => ⟨fun still => ⟨?idle, fun work turn => ⟨?output, ?input⟩⟩, ?moving, rfl⟩, ?breq⟩
  case idle => exact exec_bgntGiven_of_no_work still
  case output =>
    intro dir
    rw [exec_bgntGiven_of_work still work turn, State.startMove_output (s := s.granted) dir]
    rfl
  case input =>
    rintro dir rfl input state holder ring
    have allowed := (Link.popAllowed_iff _ _).mpr ⟨input, state, holder⟩
    rw [exec_bgntGiven_of_work still work turn, State.startMove_popped (s := s.granted) dir allowed ring]
    rfl
  case moving => exact exec_bgntGiven_of_moving
  case breq =>
    intro s
    simp only [State.breqLine_iff, State.hasWork_iff]

end

/-! # What a command leaves of the host's side of the part (chapters 8 and 10, log 5)

No event of the station bus and no work of the sequencer touches the port, the window, the settings, the pins or the queue
of waiting commands. The window's accesses touch the first four, and the queue no more than the rest. -/

namespace Sys2Proof.Machine

/-- The blocks and lines through which the host reaches the part, and the commands that wait. -/
structure HostSide where
  port : Port
  window : Window
  settings : Settings
  pins : Pins
  pending : List Instr

/-- The host's side among what surrounds the job queue. -/
def Surroundings.hostSide (r : Surroundings) : HostSide :=
  { port := r.port, window := r.window, settings := r.settings, pins := r.pins, pending := r.pending }

/-- The host's side of a state. -/
def State.hostSide (s : State) : HostSide := s.surroundings.hostSide

theorem State.pending_of_hostSide {s t : State} (h : t.hostSide = s.hostSide) : t.pending = s.pending :=
  congrArg HostSide.pending h

theorem State.window_of_hostSide {s t : State} (h : t.hostSide = s.hostSide) : t.window = s.window :=
  congrArg HostSide.window h

section HostSide
variable (s : State)

/-! ### Single updates -/

@[simp] theorem State.hostSide_setBus (x) : (s.setBus x).hostSide = s.hostSide := rfl
@[simp] theorem State.hostSide_setExchange (x) : (s.setExchange x).hostSide = s.hostSide := rfl
@[simp] theorem State.hostSide_setLinks (x) : (s.setLinks x).hostSide = s.hostSide := rfl
@[simp] theorem State.hostSide_setActive (x) : (s.setActive x).hostSide = s.hostSide := rfl
@[simp] theorem State.hostSide_setSeq (x) : (s.setSeq x).hostSide = s.hostSide := rfl
@[simp] theorem State.hostSide_setSeqState (q) : (s.setSeqState q).hostSide = s.hostSide := rfl
@[simp] theorem State.hostSide_setAttention (x) : (s.setAttention x).hostSide = s.hostSide := rfl
@[simp] theorem State.hostSide_setFreeTick (x) : (s.setFreeTick x).hostSide = s.hostSide := rfl
@[simp] theorem State.hostSide_busToFree : s.busToFree.hostSide = s.hostSide := rfl
@[simp] theorem State.hostSide_startCut : s.startCut.hostSide = s.hostSide := rfl
@[simp] theorem State.hostSide_sendFrame (a f) : (s.sendFrame a f).hostSide = s.hostSide := rfl
@[simp] theorem State.hostSide_mapActive (f) : (s.mapActive f).hostSide = s.hostSide := rfl
@[simp] theorem State.hostSide_reportStation (i f) : (s.reportStation i f).hostSide = s.hostSide := rfl
@[simp] theorem State.hostSide_beginVisit (x i) : (s.beginVisit x i).hostSide = s.hostSide := rfl
@[simp] theorem State.hostSide_enterHandback (e) : (s.enterHandback e).hostSide = s.hostSide := rfl
@[simp] theorem State.hostSide_enterInbound (e) : (s.enterInbound e).hostSide = s.hostSide := rfl
@[simp] theorem State.hostSide_sendTest (e) : (s.sendTest e).hostSide = s.hostSide := rfl

@[simp] theorem State.hostSide_judgeLatch : s.judgeLatch.hostSide = s.hostSide := by rw [State.judgeLatch_eq]; rfl

@[simp] theorem State.hostSide_clearAttention : s.clearAttention.hostSide = s.hostSide := by
  rw [State.clearAttention_eq]; rfl

@[simp] theorem State.hostSide_mapJobLink (f) : (s.mapJobLink f).hostSide = s.hostSide := by
  unfold State.mapJobLink; split <;> rfl

@[simp] theorem State.hostSide_putBackByte (e) : (s.putBackByte e).hostSide = s.hostSide := by
  rw [State.putBackByte_eq]; rfl

@[simp] theorem State.hostSide_failureReports (e o) : (s.failureReports e o).hostSide = s.hostSide := by
  rw [State.failureReports_eq]; rfl

@[simp] theorem State.hostSide_cutForJob : s.cutForJob.hostSide = s.hostSide := by rw [State.cutForJob_eq]; rfl

@[simp] theorem State.hostSide_goodPhase (e) : (s.goodPhase e).hostSide = s.hostSide := by
  rw [State.goodPhase_eq]; rfl

@[simp] theorem State.hostSide_reportPace (i f) : (s.reportPace i f).hostSide = s.hostSide := by
  unfold State.reportPace; dsimp only; split <;> rfl

@[simp] theorem State.hostSide_recordVisit (e o) : (s.recordVisit e o).hostSide = s.hostSide := by
  unfold State.recordVisit; split <;> split <;> rfl

@[simp] theorem State.hostSide_recordClaim (e v) : (s.recordClaim e v).hostSide = s.hostSide := by
  unfold State.recordClaim; split
  · split <;> rfl
  · rfl

/-! ### The mover's arbiter and the end of a run -/

@[simp] theorem State.hostSide_startMove (c) : (s.startMove c).hostSide = s.hostSide := by
  unfold State.startMove; dsimp only; split
  · rfl
  · split <;> rfl

@[simp] theorem State.hostSide_nextMove : s.nextMove.hostSide = s.hostSide := by
  unfold State.nextMove; split
  · split <;> simp
  · rfl

@[simp] theorem State.hostSide_stopChannel (c r) : (s.stopChannel c r).hostSide = s.hostSide :=
  congrArg Surroundings.hostSide (s.surroundings_stopChannel c r)

@[simp] theorem State.hostSide_loseLinks : s.loseLinks.hostSide = s.hostSide := by
  unfold State.loseLinks; dsimp only; split
  · split <;> simp
  all_goals simp

@[simp] theorem State.hostSide_resetByPulse : s.resetByPulse.hostSide = s.hostSide := by
  rw [State.resetByPulse, State.hostSide_clearAttention, State.hostSide_loseLinks]; rfl

/-! ### Scans, jobs and the arbiter -/

@[simp] theorem State.hostSide_endScanClaimed (x i v r) : (s.endScanClaimed x i v r).hostSide = s.hostSide := by
  simp only [State.endScanClaimed, State.leaveScan, State.hostSide_judgeLatch]; rfl

@[simp] theorem State.hostSide_endScanUnclaimed (x) : (s.endScanUnclaimed x).hostSide = s.hostSide := by
  rw [State.endScanUnclaimed_eq]; rfl

@[simp] theorem State.hostSide_endVisit (o) : (s.endVisit o).hostSide = s.hostSide := by
  unfold State.endVisit; split
  · rfl
  · dsimp only; split
    · simp
    · split <;> simp

@[simp] theorem State.hostSide_nextVisit : s.nextVisit.hostSide = s.hostSide := by
  unfold State.nextVisit; split
  · rfl
  · split <;> simp

@[simp] theorem State.hostSide_endJobSince (n r c) : (s.endJobSince n r c).hostSide = s.hostSide :=
  congrArg Surroundings.hostSide (s.surroundings_endJobSince n r c)

@[simp] theorem State.hostSide_endJob (r c) : (s.endJob r c).hostSide = s.hostSide := s.hostSide_endJobSince _ r c

@[simp] theorem State.hostSide_startExchange (later) : (s.startExchange later).hostSide = s.hostSide :=
  congrArg Surroundings.hostSide (s.surroundings_startExchange later)

@[simp] theorem State.hostSide_decide : s.decide.hostSide = s.hostSide :=
  (congrArg Surroundings.hostSide s.surroundings_decide).trans rfl

@[simp] theorem State.hostSide_settle (t) : (State.settle s t).hostSide = t.hostSide := by
  unfold State.settle; split <;> simp

@[simp] theorem State.hostSide_busyOutcome (j x) : (s.busyOutcome j x).hostSide = s.hostSide := by
  unfold State.busyOutcome; dsimp only; split
  · simp
  · split <;> simp

@[simp] theorem State.hostSide_dataComplete (j x) : (s.dataComplete j x).hostSide = s.hostSide := by
  unfold State.dataComplete; split <;> simp

@[simp] theorem State.hostSide_endCensusVisit (e o x) : (s.endCensusVisit e o x).hostSide = s.hostSide := by
  unfold State.endCensusVisit; dsimp only; split <;> simp

@[simp] theorem State.hostSide_jobOutcome (e o) : (s.jobOutcome e o).hostSide = s.hostSide := by
  unfold State.jobOutcome; split
  · rfl
  · dsimp only; split
    · simp
    · split
      case h_3 => split <;> simp
      all_goals simp

/-! ### The steps of an exchange -/

@[simp] theorem State.hostSide_endExchange (e o) : (s.endExchange e o).hostSide = s.hostSide := by
  unfold State.endExchange; dsimp only; split <;> simp

@[simp] theorem State.hostSide_endCut (e) : (s.endCut e).hostSide = s.hostSide := by
  unfold State.endCut; dsimp only; split
  case h_3 =>
    split
    · simp
    · split <;> simp
  all_goals simp

@[simp] theorem State.hostSide_failExchange (e o) : (s.failExchange e o).hostSide = s.hostSide := by
  simp [State.failExchange]

@[simp] theorem State.hostSide_cutExchange (e) : (s.cutExchange e).hostSide = s.hostSide := by
  simp [State.cutExchange]

@[simp] theorem State.hostSide_sendPutByte (e) : (s.sendPutByte e).hostSide = s.hostSide := by
  unfold State.sendPutByte; split
  · rfl
  · split <;> simp

@[simp] theorem State.hostSide_takeHandback (e) : (s.takeHandback e).hostSide = s.hostSide := by
  unfold State.takeHandback; split
  · rfl
  · split
    · simp
    · split
      case h_2 => split <;> simp
      all_goals simp

@[simp] theorem State.hostSide_takeAnswer (e a) : (s.takeAnswer e a).hostSide = s.hostSide := by
  unfold State.takeAnswer; dsimp only; split
  · simp
  · split
    · simp
    · split <;> simp

@[simp] theorem State.hostSide_takeFrame (e v m) : (s.takeFrame e v m).hostSide = s.hostSide := by
  unfold State.takeFrame; split
  · simp [State.takeStatus]
  · unfold State.takeData; dsimp only; split <;> simp
  · rfl

@[simp] theorem State.hostSide_putByteSent (e m) : (s.putByteSent e m).hostSide = s.hostSide := by
  unfold State.putByteSent; dsimp only; split <;> simp

@[simp] theorem State.hostSide_testSent (e) : (s.testSent e).hostSide = s.hostSide := by
  unfold State.testSent; dsimp only; split
  · simp
  · split <;> simp

@[simp] theorem State.hostSide_takeAck (e) : (s.takeAck e).hostSide = s.hostSide := by
  unfold State.takeAck; split <;> split <;> simp

@[simp] theorem State.hostSide_takeNak (e) : (s.takeNak e).hostSide = s.hostSide := by
  unfold State.takeNak; split <;> simp

/-! ### The events of the wire -/

/-- A report leaves the host's side alone when what it does to its exchange does. -/
theorem State.hostSide_onReport (w : Bool) {f : Exchange → State} (hf : ∀ e, (f e).hostSide = s.hostSide) :
    (s.onReport w f).hostSide = s.hostSide := by
  unfold State.onReport; split
  · split
    · rw [State.hostSide_settle, hf]
    · rfl
  · rfl

theorem State.hostSide_cutCompletion : s.cutCompletion.hostSide = s.hostSide := by
  unfold State.cutCompletion; split
  · split <;> simp
  · rfl

theorem State.hostSide_pulseCompletion : s.pulseCompletion.hostSide = s.hostSide := by
  unfold State.pulseCompletion; split <;> simp

theorem State.hostSide_busyDelayEnd : s.busyDelayEnd.hostSide = s.hostSide := by
  unfold State.busyDelayEnd; split <;> simp

theorem State.hostSide_nextStep : s.nextStep.hostSide = s.hostSide := by
  unfold State.nextStep; split
  · split <;> simp
  · simp
  · rfl

theorem State.hostSide_noPattern : s.noPattern.hostSide = s.hostSide := by
  unfold State.noPattern; split <;> rfl

theorem State.hostSide_answerTenthBit : s.answerTenthBit.hostSide = s.hostSide := by
  unfold State.answerTenthBit; split <;> rfl

/-! ### The queue of waiting commands across the lines and the window (log 5) -/

@[simp] theorem State.decide_pending : s.decide.pending = s.pending := State.pending_of_hostSide s.hostSide_decide
@[simp] theorem State.judgeLatch_pending : s.judgeLatch.pending = s.pending :=
  State.pending_of_hostSide s.hostSide_judgeLatch
@[simp] theorem State.nextMove_pending : s.nextMove.pending = s.pending :=
  State.pending_of_hostSide s.hostSide_nextMove
@[simp] theorem State.stopChannel_pending (c r) : (s.stopChannel c r).pending = s.pending :=
  State.pending_of_hostSide (s.hostSide_stopChannel c r)
@[simp] theorem State.endJob_pending (r c) : (s.endJob r c).pending = s.pending :=
  State.pending_of_hostSide (s.hostSide_endJob r c)
@[simp] theorem State.cutExchange_pending (e) : (s.cutExchange e).pending = s.pending :=
  State.pending_of_hostSide (s.hostSide_cutExchange e)
@[simp] theorem State.taken_pending : s.taken.pending = s.pending := rfl
@[simp] theorem State.refuse_pending (r) : (s.refuse r).pending = s.pending := rfl
@[simp] theorem State.readBack_pending (v) : (s.readBack v).pending = s.pending := rfl
@[simp] theorem State.autoStep_pending : s.autoStep.pending = s.pending := by rw [State.autoStep_eq]
@[simp] theorem State.setSeqState_pending (q) : (s.setSeqState q).pending = s.pending := rfl
@[simp] theorem State.startRun_pending (c) : (s.startRun c).pending = s.pending := rfl

theorem State.readEffect_pending (r) : (s.readEffect r).pending = s.pending := by
  unfold State.readEffect; split <;> rfl

theorem State.dataRead_pending : s.dataRead.pending = s.pending := by
  unfold State.dataRead; dsimp only; rw [State.autoStep_pending]; split
  · rfl
  next r _ => exact s.readEffect_pending r

theorem State.writeMoverReg_pending {s t : State} {c : Chan} {r : MoverReg} {v : Byte}
    (h : s.writeMoverReg c r v = .stored t) : t.pending = s.pending := by
  unfold State.writeMoverReg at h
  dsimp only at h
  split at h
  · cases h
  · split at h
    · cases h
    · split at h
      case h_1 => split at h <;> cases h; rfl
      all_goals cases h <;> rfl

theorem State.writeReg_pending {s t : State} {r : Reg} {v : Byte} (h : s.writeReg r v = .stored t) :
    t.pending = s.pending := by
  cases r
  case cfg =>
    obtain rfl : s.writeCfg v = t := WriteFate.stored.inj h
    rw [State.writeCfg_eq, State.decide_pending]; rfl
  case mover c m => exact State.writeMoverReg_pending h
  case sSel | lSel | pLink =>
    simp only [State.writeReg] at h
    split at h <;> cases h
    rfl
  all_goals cases h <;> rfl

theorem State.dataWrite_pending (v) : (s.dataWrite v).pending = s.pending := by
  unfold State.dataWrite; dsimp only; rw [State.autoStep_pending]; split
  · rfl
  · split
    next t h => exact State.writeReg_pending (t := t) h
    · rfl
    · rfl

theorem State.portRead_pending : s.portRead.pending = s.pending := by unfold State.portRead; split <;> rfl
theorem State.portWrite_pending (v) : (s.portWrite v).pending = s.pending := by unfold State.portWrite; split <;> rfl
theorem State.portMark_pending : s.portMark.pending = s.pending := by unfold State.portMark; split <;> rfl
theorem State.portSkip_pending : s.portSkip.pending = s.pending := by unfold State.portSkip; split <;> rfl
theorem State.moverStart_pending (c) : (s.moverStart c).pending = s.pending := by
  unfold State.moverStart; split <;> simp
theorem State.moverStop_pending (c) : (s.moverStop c).pending = s.pending := by unfold State.moverStop; split <;> simp

theorem State.postJob_pending : s.postJob.pending = s.pending := by
  unfold State.postJob; split
  · rfl
  · split <;> simp

theorem State.popEvent_pending : s.popEvent.pending = s.pending := by unfold State.popEvent; split <;> simp

theorem State.purgeJobs_pending : s.purgeJobs.pending = s.pending := by
  unfold State.purgeJobs State.setQroomOnFall; dsimp only; split <;> simp

theorem State.askRearm_pending : s.askRearm.pending = s.pending := by unfold State.askRearm; split <;> simp

@[simp] theorem State.abortNow_pending : s.abortNow.pending = s.pending := by unfold State.abortNow; split <;> simp

theorem State.abortJob_pending : s.abortJob.pending = s.pending := by
  unfold State.abortJob; split
  case h_6 => split <;> simp
  all_goals simp

theorem State.softReset_pending : s.softReset.pending = s.pending := by
  rw [State.softReset_eq_decide, State.decide_pending, State.softResetDone_eq]

theorem State.commandWrite_pending (v) : (s.commandWrite v).pending = s.pending := by
  unfold State.commandWrite; split
  · exact s.postJob_pending
  · exact s.popEvent_pending
  · exact s.abortJob_pending
  · exact s.purgeJobs_pending
  · exact s.askRearm_pending
  · exact s.portMark_pending
  · exact s.portSkip_pending
  · exact s.moverStart_pending .a
  · exact s.moverStart_pending .b
  · exact s.moverStop_pending .a
  · exact s.moverStop_pending .b
  · exact s.softReset_pending
  · rfl

theorem State.askAsserted_pending : s.askAsserted.pending = s.pending := by unfold State.askAsserted; split <;> simp

theorem State.finishMove_pending (m v) : (s.finishMove m v).1.pending = s.pending := by
  unfold State.finishMove; dsimp only; split <;> split <;> rfl

theorem State.afterClaim_pending (m f) : (s.afterClaim m f).pending = f.1.pending := by
  unfold State.afterClaim; dsimp only; split <;> rfl

theorem State.moveCompletion_pending (v) : (s.moveCompletion v).pending = s.pending := by
  unfold State.moveCompletion; split
  · rw [State.completeMove_eq, State.nextMove_pending, State.afterClaim_pending, State.finishMove_pending]
  · rfl

/-- The window takes an access whole or not at all (R169). -/
theorem onWindow_pending {f : State → State} (hf : (f s).pending = s.pending) :
    ∃ t, onWindow f s = .next t ∧ t.pending = s.pending := by
  rcases onWindow_cases f s with ⟨-, h⟩ | ⟨-, h⟩
  · exact ⟨f s, h, hf⟩
  · exact ⟨s, h, rfl⟩

end HostSide

end Sys2Proof.Machine

section
open Sys2Proof.Machine

/-- Settles O2: every meaning answers a next state; an event of the wire leaves the host's side as it was, and an access or a
line event leaves the queue of commands. -/
theorem everyCommandAnswersAndKeepsTheQueue : Obligations.EveryCommandAnswersAndKeepsTheQueue := by
  intro c s
  have wire {t : State} (h : t.hostSide = s.hostSide) :
      ∃ u, (Host.Outcome.next t : Host.Outcome State Fault Refusal) = .next u ∧ u.pending = s.pending :=
    ⟨t, rfl, State.pending_of_hostSide h⟩
  cases c with
  | indexWrite v => exact onWindow_pending s (f := fun t => t.setWindow { t.window with index := v.setWidth 6 }) rfl
  | statusRead =>
    exact onWindow_pending s (f := fun t => (t.setEvents { t.events with qroom := false }).readBack t.statusByte) rfl
  | cfgWrite v | intEnWrite v | sSelWrite v | lSelWrite v | pLinkWrite v | maLinkWrite v | registerWrite v =>
    exact onWindow_pending s (f := (·.dataWrite v)) (s.dataWrite_pending v)
  | lCountLRead | lTotalLRead | maAddrLRead | maCountLRead | pFlagsRead | dataRead =>
    exact onWindow_pending s s.dataRead_pending
  | portRead => exact onWindow_pending s s.portRead_pending
  | portWrite v => exact onWindow_pending s (f := (·.portWrite v)) (s.portWrite_pending v)
  | post => exact onWindow_pending s s.postJob_pending
  | pop => exact onWindow_pending s s.popEvent_pending
  | abort => exact onWindow_pending s s.abortJob_pending
  | purge => exact onWindow_pending s s.purgeJobs_pending
  | askRearm => exact onWindow_pending s s.askRearm_pending
  | portMark => exact onWindow_pending s s.portMark_pending
  | portSkip => exact onWindow_pending s s.portSkip_pending
  | moverStart c => exact onWindow_pending s (f := (·.moverStart c)) (s.moverStart_pending c)
  | moverStop c => exact onWindow_pending s (f := (·.moverStop c)) (s.moverStop_pending c)
  | softReset => exact onWindow_pending s s.softReset_pending
  | unknownCommand v => exact onWindow_pending s (f := (·.commandWrite v)) (s.commandWrite_pending v)
  | pinReset | bgntWithdrawn => exact ⟨_, rfl, rfl⟩
  | askLineAsserted => exact ⟨_, rfl, s.askAsserted_pending⟩
  | askLineReleased => exact ⟨_, rfl, State.decide_pending _⟩
  | bgntGiven => exact ⟨_, rfl, State.nextMove_pending _⟩
  | byteMoveCompletion v => exact ⟨_, rfl, s.moveCompletion_pending v⟩
  | linesReleased => exact wire (s.hostSide_onReport _ fun _ => rfl)
  | ackRead => exact wire (s.hostSide_onReport _ fun e => (State.hostSide_nextMove _).trans (s.hostSide_takeAck e))
  | nakRead | nakGiven => exact wire (s.hostSide_onReport _ s.hostSide_takeNak)
  | answerReceived d m => exact wire (s.hostSide_onReport _ fun e => s.hostSide_takeAnswer e _)
  | frameReceived d m => exact wire (s.hostSide_onReport _ fun e => s.hostSide_takeFrame e d m)
  | handback => exact wire (s.hostSide_onReport _ s.hostSide_takeHandback)
  | stbEdgeInHandback => exact wire (s.hostSide_onReport _ fun e => by split <;> simp)
  | answerTimeout => exact wire (s.hostSide_onReport _ fun e => State.hostSide_endExchange _ e _)
  | frameTimeout | turnError => exact wire (s.hostSide_onReport _ fun e => s.hostSide_failExchange e _)
  | cutCompletion => exact wire s.hostSide_cutCompletion
  | pulseCompletion => exact wire s.hostSide_pulseCompletion
  | busyDelayEnd => exact wire s.hostSide_busyDelayEnd
  | nextStep => exact wire s.hostSide_nextStep
  | noPattern => exact wire s.hostSide_noPattern
  | answerTenthBit => exact wire s.hostSide_answerTenthBit

end

/-! # The register window: INDEX, STATUS and the plain accesses (chapter 10) -/

namespace Sys2Proof.Machine

/-! ### The shut window (R169) -/

/-- While the window is shut no access is taken (R169, log 12). -/
theorem onWindow_shut (f : State → State) {s : State} (h : s.windowShut = true) : onWindow f s = .next s := by
  simp [onWindow, h]

/-- Every window access goes through the window as a whole (R169). -/
theorem exec_of_windowAccess {c : Instr} (h : windowAccess c = true) :
    ∃ f : State → State, ∀ s, exec c s = onWindow f s := by
  cases c with
  | pinReset | askLineAsserted | askLineReleased | bgntGiven | bgntWithdrawn | byteMoveCompletion | linesReleased
  | ackRead | nakRead | answerReceived | frameReceived | nakGiven | handback | stbEdgeInHandback | answerTimeout
  | frameTimeout | turnError | cutCompletion | pulseCompletion | busyDelayEnd | nextStep | noPattern
  | answerTenthBit => cases h
  | _ => exact ⟨_, fun _ => rfl⟩

/-! ### INDEX (R170) -/

/-- SOFT-RESET clears CMDERR and keeps the rest of the window (R170, R176). -/
theorem State.softReset_window (s : State) : s.softReset.window = { s.window with cmdErr := false } := by
  rw [State.softReset_eq_decide, State.decide_window, State.softResetDone_eq]

/-! ### The STATUS byte (R151, R174) -/

/-- The bits of a byte made of bits. -/
theorem byteOfBits_getLsbD (b7 b6 b5 b4 b3 b2 b1 b0 : Bool) (k : Fin 8) :
    (byteOfBits b7 b6 b5 b4 b3 b2 b1 b0).getLsbD k = ![b0, b1, b2, b3, b4, b5, b6, b7] k := by
  have bit {n : Nat} {b : Bool} (h : n % 2 = bitVal b) : decide (n % 2 = 1) = b := by cases b <;> simp [h, bitVal]
  have := bitVal_le_one b7; have := bitVal_le_one b6; have := bitVal_le_one b5; have := bitVal_le_one b4
  have := bitVal_le_one b3; have := bitVal_le_one b2; have := bitVal_le_one b1; have := bitVal_le_one b0
  rw [BitVec.getLsbD, Nat.testBit_eq_decide_div_mod_eq, byteOfBits_toNat]
  fin_cases k <;> refine bit ?_ <;> simp <;> omega

/-- PORTRDY: the next port access of the link's direction would be taken (R151). -/
theorem State.portReady_iff (s : State) : s.portReady = true ↔ (s.link s.port.link).holder = none ∧
    (((s.link s.port.link).dir = .input ∧ (s.link s.port.link).state ∈ [LinkState.opened, .shutting, .lost] ∧
        (s.link s.port.link).ring ≠ []) ∨
      ((s.link s.port.link).dir = .output ∧ (s.link s.port.link).state ∈ [LinkState.opening, .opened] ∧
        (s.link s.port.link).ring.length < 256 * (s.link s.port.link).pages.length)) := by
  unfold State.portReady
  generalize s.link s.port.link = l
  have bytes : (l.count != 0) = true ↔ l.ring ≠ [] := by simp [Link.count]
  have room : (l.space != 0) = true ↔ l.ring.length < 256 * l.pages.length := by
    simp [Link.space_eq_zero_iff]
  simp only [Bool.or_eq_true, Bool.and_eq_true, Link.popAllowed_iff, Link.pushAllowed_iff_mem, bytes, room]
  tauto

/-- The state after a STATUS read: the byte is on the host data bus and the QROOM latch is clear (R138, R174, log 1). -/
def State.statusTaken (s : State) : State := { s with
  events := { s.events with qroom := false }
  pins := { s.pins with readData := s.statusByte } }

theorem exec_statusRead {s : State} (h : s.windowShut = false) : exec .statusRead s = .next s.statusTaken :=
  onWindow_open (fun t => (t.setEvents { t.events with qroom := false }).readBack t.statusByte) h

/-! ### Plain accesses (R171, R172, log 2) -/

/-- A register whose DATA write is disregarded (R172). -/
def Reg.readOnly : Reg → Bool
  | .eClassCode | .eSource | .eResult | .eCountL | .eCountH | .eDetail | .eFlags | .eLevel | .seq | .qLevel | .qHeadTag
  | .purged | .refuse | .sEntry | .sStatusFlag | .sStatusByte | .lState | .lEnd | .lPages | .lCountL | .lCountH | .lMarks
  | .lTotalL | .lTotalH | .pool | .pFlags | .mover _ .state => true
  | _ => false

theorem State.writeReg_readOnly {r : Reg} (h : r.readOnly = true) (s : State) (v : Byte) : s.writeReg r v = .ignored := by
  cases r with
  | cfg | intEn | tAnswer | tFrame | tTurn | retry | busyDelay | rstPulse | clkRate | jKind | jTag | jLink | jStation
  | jChan | jPages | jLimitL | jLimitH | sSel | lSel | pLink => cases h
  | mover c m =>
    cases m with
    | link | addrL | addrH | countL | countH | mode => cases h
    | state => rfl
  | _ => rfl

/-- A register whose read has no effect (R83, R148, R156, R172). -/
def Reg.plainRead : Reg → Bool
  | .lCountL | .lTotalL | .pFlags | .mover _ .addrL | .mover _ .countL => false
  | _ => true

theorem State.readEffect_plain {r : Reg} (h : r.plainRead = true) (s : State) : s.readEffect r = s := by
  unfold State.readEffect
  split
  case h_6 => rfl
  all_goals cases h

/-- The indices of the registers that a DATA write disregards, with the unassigned ones (section 10.3). -/
theorem regOfIndex_readOnly : ∀ i : BitVec 6, i.toNat ∈ [9, 18, 19, 20, 21, 22, 23, 24, 25, 26, 27, 28, 29, 30, 31, 33, 34,
    35, 37, 38, 39, 40, 41, 42, 43, 44, 45, 47, 54, 55, 62, 63] → (regOfIndex i).all Reg.readOnly = true := by
  decide

/-- A read has an effect at these indices alone (section 10.3). -/
theorem regOfIndex_plainRead : ∀ i : BitVec 6, i.toNat ∉ [40, 43, 47, 49, 51, 57, 59] →
    (regOfIndex i).all Reg.plainRead = true := by
  decide

/-- The unassigned indices (section 10.3). -/
theorem regOfIndex_unassigned : ∀ i : BitVec 6, i.toNat ∈ [9, 31, 55, 63] → regOfIndex i = none := by
  decide

variable {s : State}

/-- A DATA write that no register takes changes INDEX alone. -/
theorem State.dataWrite_ignored (h : (regOfIndex s.window.index).all Reg.readOnly = true) (v : Byte) :
    s.dataWrite v = { s with window := s.window.afterAccess s.settings.step } := by
  rw [← State.autoStep_eq, State.dataWrite]
  cases hr : regOfIndex s.window.index with
  | none => rfl
  | some r => simp only [State.writeReg_readOnly (by simpa [hr] using h)]

/-- The byte a DATA read returns: the register INDEX selects, and 0 at an unassigned index (R172). -/
def State.dataByte (s : State) : Byte := (regOfIndex s.window.index).elim 0 s.readReg

/-- A DATA read without effect changes the byte read and INDEX alone. -/
theorem State.dataRead_plain (h : (regOfIndex s.window.index).all Reg.plainRead = true) :
    s.dataRead = { s with
      pins := { s.pins with readData := s.dataByte }
      window := s.window.afterAccess s.settings.step } := by
  unfold State.dataRead State.dataByte
  rw [State.autoStep_eq]
  cases hr : regOfIndex s.window.index with
  | none => rfl
  | some r =>
    dsimp only
    rw [State.readEffect_plain (by simpa [hr] using h)]
    rfl

end Sys2Proof.Machine

section
open Sys2Proof Sys2Proof.Machine

/-- Settles O3: the shut window turns every access away. -/
theorem windowShutTakesNoAccess : Obligations.WindowShutTakesNoAccess := by
  intro c s access granted moving
  obtain ⟨f, exec_eq⟩ := exec_of_windowAccess access
  exact (exec_eq s).trans (onWindow_shut f (by simp [State.windowShut, granted, moving]))

/-- Settles O4: INDEX takes the low six bits, a read of its offset is one of STATUS, and of the resets the pin's alone
touches it. -/
theorem indexRegister : Obligations.IndexRegister := by
  intro s v
  refine ⟨?write, ?read, ?pin, ?soft, ?bus⟩
  case write => exact onWindow_open (fun t => t.setWindow { t.window with index := v.setWidth 6 })
  case read => exact fun taken => ⟨_, exec_statusRead taken, rfl, rfl⟩
  case pin => exact ⟨_, rfl, rfl⟩
  case soft => exact fun taken => ⟨_, onWindow_open (·.softReset) taken, by rw [State.softReset_window]⟩
  case bus => exact ⟨_, rfl, congrArg Window.index (State.window_of_hostSide s.hostSide_pulseCompletion)⟩

/-- Settles O5: each bit of the STATUS byte is its field, and PORTRDY is `State.portReady_iff`. -/
theorem statusReadResult : Obligations.StatusReadResult := by
  intro s taken
  have bit := byteOfBits_getLsbD s.window.cmdErr s.pins.askLine s.portReady s.stalled (s.seq.state == .idle)
    s.events.qroom (s.jobs.length == 8) (!s.events.held.isEmpty)
  have ready : s.statusByte.getLsbD 5 = s.portReady := bit 5
  exact ⟨_, exec_statusRead taken, rfl, bit 0, bit 1, bit 2, bit 3, bit 4, ready ▸ s.portReady_iff, bit 6, bit 7⟩

/-- Settles O9: no register takes these writes, and no register these reads select has a read effect. -/
theorem plainAccessesStepIndex : Obligations.PlainAccessesStepIndex := by
  refine ⟨fun s v taken index => ?write, fun s taken index => ?read⟩
  case write =>
    exact onWindow_next (f := (·.dataWrite v)) taken (State.dataWrite_ignored (regOfIndex_readOnly _ index) v)
  case read =>
    refine ⟨_, onWindow_next taken (State.dataRead_plain (regOfIndex_plainRead _ index)), rfl, fun unassigned => ?_⟩
    exact congrArg (Option.elim · 0 s.readReg) (regOfIndex_unassigned _ unassigned)

end

/-! # One step, and the state right after pin reset -/

namespace Sys2Proof.Machine

section Step
variable {s : State} {c : Instr} {rest : List Instr}

/-- An empty queue of commands idles (log 5). -/
theorem step_of_pending_nil (h : s.pending = []) : step s = .next s := by
  unfold step
  rw [h]

/-- The front command leaves the queue and runs on what waits behind it (log 5). -/
theorem step_of_pending_cons (h : s.pending = c :: rest) : step s = exec c (s.setPending rest) := by
  unfold step
  rw [h]

end Step

/-! ### The tables at pin reset keep their laws -/

/-- The tables at pin reset: every link Closed, every page free and both channels Idle (R59, R62, R155). -/
def Tables.reset : Tables :=
  { link := fun _ => Link.reset, free := allPages, chan := fun _ => Channel.reset }

namespace Tables

theorem reset_pageLaw : reset.PageLaw := .of_all_free rfl fun _ => rfl

/-- No link has a holder, and no channel runs. -/
theorem reset_bound (c : Chan) : reset.Bound c where
  held _ held := nomatch held
  holds running := nomatch running

/-- No link is bound to an endpoint. -/
theorem reset_endpointLaw : reset.EndpointLaw := fun _ _ _ bound => nomatch bound

/-- Every ring is empty. -/
theorem reset_ringLaw : reset.RingLaw where
  count _ := Nat.zero_le _
  marks _ := Nat.zero_le _
  room _ _ held := nomatch held

end Tables

/-! ### Pin reset makes every law hold, whatever state it meets -/

section PinReset
variable (s : State)

theorem State.pinReset_tables : s.pinReset.tables = Tables.reset := by
  have link (i : LinkIndex) : s.pinReset.link i = Link.reset := by simp [State.link, State.pinReset, State.reset]
  have chan (c : Chan) : s.pinReset.chan c = Channel.reset := by cases c <;> rfl
  exact congrArg₂ (Tables.mk · allPages ·) (funext link) (funext chan)

/-- No exchange is in progress and no station is demoted (R42, R44). -/
theorem State.pinReset_paceLaw : s.pinReset.PaceLaw := by
  refine ⟨rfl, fun i demoted => ?_⟩
  simp [State.station, State.pinReset, State.reset, Station.reset] at demoted

theorem State.pinReset_laws : s.pinReset.Lawful := by
  have tables := s.pinReset_tables
  obtain ⟨queue, bus⟩ := s.pinReset.busView_lawful_iff.mp s.pinReset_lawful
  obtain ⟨limit, take⟩ := s.pinReset.dataLaw_iff.mp (State.dataLaw_kept.pinReset s)
  have slot : s.pinReset.SlotLaw := s.pinReset.slotView_lawful_iff.mp s.pinReset_slots
  have page : s.pinReset.PageLaw := s.pinReset.pageLaw_iff.mpr (tables ▸ Tables.reset_pageLaw)
  have linkJob : s.pinReset.LinkJobLaw := State.linkJobLaw_kept.pinReset s
  have endpoint : s.pinReset.EndpointLaw := s.pinReset.endpointLaw_iff.mpr (tables ▸ Tables.reset_endpointLaw)
  have holder : s.pinReset.HolderLaw := s.pinReset.holderLaw_iff.mpr (tables ▸ Tables.reset_bound)
  have ring : s.pinReset.RingLaw := s.pinReset.ringLaw_iff.mpr ⟨tables ▸ Tables.reset_ringLaw, take⟩
  exact ⟨queue, bus, slot, page, linkJob, endpoint, holder, limit, ring, s.pinReset_paceLaw, rfl⟩

end PinReset

/-- Pin reset leaves the state right after it as it is. -/
theorem State.pinReset_reset : State.reset.pinReset = State.reset := rfl

end Sys2Proof.Machine

section
open Sys2Proof.Machine

/-- Settles O1: a step looks at the queue of commands alone to find what runs. -/
theorem stepRunsFrontCommand : Obligations.StepRunsFrontCommand :=
  ⟨fun c rest s => step_of_pending_cons (s.setPending_pending (c :: rest)), fun _ => step_of_pending_nil⟩

/-- Settles O58: pin reset makes every law hold, and the state right after it is its own pin reset. -/
theorem resetIsLawful : Obligations.ResetIsLawful := by
  have laws := State.reset.pinReset_laws
  rwa [State.pinReset_reset] at laws

end
